-- ==== Sys2Proof/Word.lean ====
section
/-!
DEFINITION. The words of the block: a byte (R11), a 16-bit command word (R86), a 32-bit data word (R89), and the two
fixed arrays the spec gives the block: six payload bytes and the eight bytes of a wire block (R31, R41, R81).
-/

namespace Sys2Proof

/-- R11: "A **Byte** is an unsigned 8-bit value `0..255`", bit 7 the most significant. -/
abbrev Byte := BitVec 8

/-- R86: a command is a 16-bit word, `op` in bits 15..8 and `arg` in bits 7..0. -/
abbrev CommandWord := BitVec 16

/-- R89: the data word a command returns has 32 bits. -/
abbrev DataWord := BitVec 32

/-- Six bytes, index 0 first: the raw block after padding (`W.raw[0..5]`, R31), or the six masked data bytes of a
block. `CHECKSUM` takes one (R7). -/
structure Raw6 where
  b0 : Byte
  b1 : Byte
  b2 : Byte
  b3 : Byte
  b4 : Byte
  b5 : Byte
deriving DecidableEq, Repr, Inhabited

/-- The eight bytes of a block in wire order (R81): mask, checksum, then data bytes 0 to 5. `W.enc[0..7]` (R31) and
`H.blk[0..7]` (R41) are of this shape; the bytes may hold any value. -/
structure Blk8 where
  mask : Byte
  checksum : Byte
  d0 : Byte
  d1 : Byte
  d2 : Byte
  d3 : Byte
  d4 : Byte
  d5 : Byte
deriving DecidableEq, Repr, Inhabited

end Sys2Proof
end

