-- ==== Sys2Proof/Config.lean ====
section
/-!
DEFINITION. What is fixed for the machine and does not change as it runs: the constants of R6, the parameters of
R7 to R9 as uninterpreted constants (no body: nothing in Lean can evaluate one), and the one free value.
-/

namespace Sys2Proof

/-- R9: the default value of `Q_W`. -/
abbrev Config.defaultQw : Nat := 8

/-- The parameters one instance of the block is built with (R7 to R9): the four buffer capacities, the width in bits of
the queued-frame counter, 8 unless another is chosen, and which function its `CHECKSUM` is (`Config.checksum`). R10 and
R185 give every instance its own parameters, so a machine state carries its own, and no step writes them. -/
structure Params where
  srcCap : Nat
  outCap : Nat
  inCap : Nat
  appCap : Nat
  qw : Nat := Config.defaultQw
  checksumId : Nat
deriving DecidableEq, Repr, Inhabited

/-- What a platform says of an instance's parameters: all of them but `Q_W`, which it may leave at its default (R9). -/
structure Choice where
  srcCap : Nat
  outCap : Nat
  inCap : Nat
  appCap : Nat
  qw : Option Nat
  checksumId : Nat
deriving DecidableEq, Repr, Inhabited

namespace Config

/-! R6: "constants of every model". -/

/-- `BLOCK_DATA`, payload bytes per block. -/
abbrev blockData : Nat := 6
/-- `BLOCK_LEN`, wire bytes per block. -/
abbrev blockLen : Nat := 8
/-- `N_MIN`, least number of blocks in a frame. -/
abbrev nMin : Nat := 1
/-- `N_MAX`, greatest number of blocks in a frame. -/
abbrev nMax : Nat := 15
/-- `PAYLOAD_MAX = N_MAX * BLOCK_DATA`. -/
abbrev payloadMax : Nat := 90
/-- `PAD`, the padding sentinel. -/
abbrev pad : Byte := 0xFF#8
/-- `MASK_BASE`, the initial mask value. -/
abbrev maskBase : Byte := 0x80#8

/-- R7, R92: `CHECKSUM : Byte^6 -> Byte`, an uninterpreted total function for every instance (R10): `checksum k` is the
function of an instance whose `checksumId` is `k`. A claim may assume named properties of it (`CS7`, `CSSBE`), never a
body. (notes/assumptions/2) -/
opaque checksum : Nat → Raw6 → Byte

/-- What the platform chose for the parameters of R7 to R9: uninterpreted. (notes/assumptions/3) -/
opaque chosen : Choice

/-- R8, R9: every parameter is an integer `>= 1`, and `Q_W` is 8 where the platform chose none. -/
def params : Params where
  srcCap := max 1 chosen.srcCap
  outCap := max 1 chosen.outCap
  inCap := max 1 chosen.inCap
  appCap := max 1 chosen.appCap
  qw := max 1 (chosen.qw.getD defaultQw)
  checksumId := chosen.checksumId

/-- FREE VALUE (DESIGN CHOICE, notes/assumptions/4): the data word of `W.QCOUNT` when the counter needs more than 32
bits, which R89's `zext_32(W.queued)` does not give (R9 does not bound `Q_W`). -/
opaque qcountBeyond32 : Nat → DataWord

end Config

/-- R8, R9: each capacity and `Q_W` is `>= 1`. -/
def Params.wf (p : Params) : Bool :=
  decide (1 ≤ p.srcCap) && decide (1 ≤ p.outCap) && decide (1 ≤ p.inCap) && decide (1 ≤ p.appCap) && decide (1 ≤ p.qw)

/-! The properties of an instance's `CHECKSUM` that R92 names. They are hypotheses a claim may take, never built in. -/

/-- R92 `CS7`: six bytes in `0x00..0x7F` give a checksum `<= 0x7F`. -/
def CS7 (k : Nat) : Prop :=
  ∀ d : Raw6, d.b0 ≤ 0x7F#8 → d.b1 ≤ 0x7F#8 → d.b2 ≤ 0x7F#8 → d.b3 ≤ 0x7F#8 → d.b4 ≤ 0x7F#8 → d.b5 ≤ 0x7F#8 →
    Config.checksum k d ≤ 0x7F#8

/-- Two byte sextuples differ in exactly one bit: bit `k` of one byte, and nothing else. -/
def Raw6.differInOneBit (d e : Raw6) : Prop :=
  ∃ k : Fin 8, let f : Byte := 1#8 <<< k.val
    e = { d with b0 := d.b0 ^^^ f } ∨ e = { d with b1 := d.b1 ^^^ f } ∨ e = { d with b2 := d.b2 ^^^ f } ∨
    e = { d with b3 := d.b3 ^^^ f } ∨ e = { d with b4 := d.b4 ^^^ f } ∨ e = { d with b5 := d.b5 ^^^ f }

/-- R92 `CS_SBE`: on 7-bit-clean inputs that differ in exactly one bit the checksums differ. -/
def CSSBE (k : Nat) : Prop :=
  ∀ d e : Raw6,
    d.b0 ≤ 0x7F#8 → d.b1 ≤ 0x7F#8 → d.b2 ≤ 0x7F#8 → d.b3 ≤ 0x7F#8 → d.b4 ≤ 0x7F#8 → d.b5 ≤ 0x7F#8 →
    e.b0 ≤ 0x7F#8 → e.b1 ≤ 0x7F#8 → e.b2 ≤ 0x7F#8 → e.b3 ≤ 0x7F#8 → e.b4 ≤ 0x7F#8 → e.b5 ≤ 0x7F#8 →
    d.differInOneBit e → Config.checksum k d ≠ Config.checksum k e

end Sys2Proof
end

