-- ==== Sys2Proof/Syntax.lean ====
section
/-!
DEFINITION. The instructions, whole: one constructor for every row of spec/opcode_table.json. The block has no program
(R20); its "instructions" are the 20 command words of R86, the three internal operations (R122, R94, R97), the six
byte classes the handler decodes (R84) and the two wire formats (R79, R81).
-/

namespace Sys2Proof

/-- A block on the wire, by its fields (R81): `m` is `byte0[5:0]`, `c` is byte 1 whole, `dj` is `byte(2+j)[6:0]`. The
fixed bits (`10` in front of `m`, `0` in front of each `dj`) are no operands. -/
structure WireBlock where
  m : BitVec 6
  c : BitVec 8
  d0 : BitVec 7
  d1 : BitVec 7
  d2 : BitVec 7
  d3 : BitVec 7
  d4 : BitVec 7
  d5 : BitVec 7
deriving DecidableEq, Repr, Inhabited

/-- R84: the six classes of a byte the handler takes from `IN`, each with the field it carries. -/
inductive WireClass where
  | data (d : BitVec 7)
  | mask (m : BitVec 6)
  | sc1 (n : BitVec 4)
  | sc2 (n : BitVec 4)
  | ec1 (n : BitVec 4)
  | ec2 (n : BitVec 4)
deriving DecidableEq, Repr

/-- Every row of the opcode table. -/
inductive Instr where
  /-- `W.INIT` (R193), word `0x0100`. -/
  | wInit
  /-- `W.POLL` (R111), word `0x0200`. -/
  | wPoll
  /-- `W.OPEN` (R103), word `0x0300`. -/
  | wOpen
  /-- `W.WRITE b` (R104), word `0x0400 | b`. -/
  | wWrite (b : Byte)
  /-- `W.CLOSE` (R105), word `0x0500`. -/
  | wClose
  /-- `W.TRIGGER` (R106), word `0x0600`. -/
  | wTrigger
  /-- `W.QCOUNT` (R107), word `0x0700`. -/
  | wQcount
  /-- `W.REGOUT` (R108), word `0x0800`. -/
  | wRegout
  /-- `W.REGLSN` (R109), word `0x0900`. -/
  | wReglsn
  /-- `W.STATUS` (R110), word `0x0A00`. -/
  | wStatus
  /-- `H.INIT` (R194), word `0x1100`. -/
  | hInit
  /-- `H.POLL` (R141), word `0x1200`. -/
  | hPoll
  /-- `H.SUBMIT b` (R137), word `0x1300 | b`. -/
  | hSubmit (b : Byte)
  /-- `H.REGAPP` (R138), word `0x1400`. -/
  | hRegapp
  /-- `H.REGLSN` (R139), word `0x1500`. -/
  | hReglsn
  /-- `H.STATUS` (R140), word `0x1600`. -/
  | hStatus
  /-- `E.OUTGET` (R167), word `0x2100`. -/
  | eOutget
  /-- `E.APPGET` (R168), word `0x2200`. -/
  | eAppget
  /-- `E.CLRAPPLSN` (R169), word `0x2300`. -/
  | eClrapplsn
  /-- `E.CLRSENDLSN` (R170), word `0x2400`. -/
  | eClrsendlsn
  /-- `W.SPIN` (R122): the writer's internal step; no command word. -/
  | wSpin
  /-- `ENCODE(raw)` (R94): codec function, 1 to 6 bytes; no command word. -/
  | codecEncode (raw : List Byte)
  /-- `DECODE(blk)` (R97): codec function, 8 bytes; no command word. -/
  | codecDecode (blk : Blk8)
  /-- `WIRE.DATA` (R159, dispatch R145), byte `0ddddddd`. -/
  | wireData (d : BitVec 7)
  /-- `WIRE.MASK` (R158, dispatch R145), byte `10mmmmmm`. -/
  | wireMask (m : BitVec 6)
  /-- `WIRE.SC1` (R153, dispatch R145 and R151), byte `1100nnnn`. -/
  | wireSc1 (n : BitVec 4)
  /-- `WIRE.SC2` (R154), byte `1101nnnn`. -/
  | wireSc2 (n : BitVec 4)
  /-- `WIRE.EC1` (R155), byte `1110nnnn`. -/
  | wireEc1 (n : BitVec 4)
  /-- `WIRE.EC2` (R156), byte `1111nnnn`. -/
  | wireEc2 (n : BitVec 4)
  /-- `FRAME` (R79): the whole frame of `n` blocks, emitted by the writer. -/
  | frame (n : BitVec 4) (blocks : List WireBlock)
  /-- `BLOCK` (R81): one block, emitted by the writer. -/
  | block (b : WireBlock)
deriving DecidableEq, Repr

end Sys2Proof
end

