-- ==== Sys2Proof/WellFormed.lean ====
section
/-!
DEFINITION. Which terms are instructions of the table. Most operands are well formed by their type; the checks below are
those the types do not make: the length of `ENCODE`'s operand, the byte classes of `DECODE`'s, and a frame's count.
-/

namespace Sys2Proof

/-- R84: a MASK-class byte, `(byte & 0b11000000) == 0b10000000`. -/
def Byte.isMask (b : Byte) : Bool := b &&& 0xC0#8 == 0x80#8

/-- R84: a DATA-class byte, `0x00..0x7F`. -/
def Byte.isData (b : Byte) : Bool := decide (b ≤ 0x7F#8)

/-- R97: "`blk[0]` a MASK-class byte, `blk[1..7]` DATA-class bytes". -/
def Blk8.classesOk (b : Blk8) : Bool :=
  Byte.isMask b.mask && Byte.isData b.checksum && Byte.isData b.d0 && Byte.isData b.d1 && Byte.isData b.d2 &&
    Byte.isData b.d3 && Byte.isData b.d4 && Byte.isData b.d5

/-- The instruction is one of the table's, with operands in the range the spec gives them. -/
def Instr.wf : Instr → Bool
  | .codecEncode raw => decide (1 ≤ raw.length) && decide (raw.length ≤ 6)
  | .codecDecode blk => blk.classesOk
  | .frame n blocks => n != 0#4 && blocks.length == n.toNat
  | .wInit => true
  | .wPoll => true
  | .wOpen => true
  | .wWrite _ => true
  | .wClose => true
  | .wTrigger => true
  | .wQcount => true
  | .wRegout => true
  | .wReglsn => true
  | .wStatus => true
  | .hInit => true
  | .hPoll => true
  | .hSubmit _ => true
  | .hRegapp => true
  | .hReglsn => true
  | .hStatus => true
  | .eOutget => true
  | .eAppget => true
  | .eClrapplsn => true
  | .eClrsendlsn => true
  | .wSpin => true
  | .wireData _ => true
  | .wireMask _ => true
  | .wireSc1 _ => true
  | .wireSc2 _ => true
  | .wireEc1 _ => true
  | .wireEc2 _ => true
  | .block _ => true

end Sys2Proof
end

