-- ==== Sys2Proof/Decode.lean ====
section
/-!
DEFINITION. Decoding, then encoding. Three encodings stand side by side (30_encoding.md): the 16-bit command words of the
ports (R86 to R88), the byte classes the handler sorts inbound bytes into (R84), and the multi-byte wire units BLOCK and
FRAME (R79, R81). The internal operations have no encoding (the table's `INTERNAL` rows).
-/

namespace Sys2Proof

/-- Why a command word is refused. -/
inductive CommandError where
  /-- R88: an `op` value outside the table of R86. -/
  | reservedOpcode
  /-- R87: a non-zero `arg` on a command other than `W.WRITE` and `H.SUBMIT`. -/
  | nonZeroArgument
deriving DecidableEq, Repr

/-- Why bits are no instruction. A reserved command word is refused (R87, R88); the wire errors are those of a byte
string that is no BLOCK and no FRAME. -/
inductive DecodeError where
  /-- A command word that is refused. -/
  | command (e : CommandError)
  /-- The internal operations have no encoding. -/
  | noEncoding
  /-- An empty byte string. -/
  | emptyWire
  /-- R81: block byte 0 is not `10mmmmmm`. -/
  | notMaskByte
  /-- R81: one of block bytes 2..7 is not `0ddddddd`. -/
  | notDataByte
  /-- R79: byte 0 of a frame is not `1100nnnn` with `n >= 1`. -/
  | notStartCode1
  /-- R79: byte 1 of a frame is not `1101nnnn` with the same `n`. -/
  | notStartCode2
  /-- R79: the bytes after the blocks are not `1110nnnn 1111nnnn` with the same `n`. -/
  | notEndCodes
  /-- R80: fewer bytes than `4 + 8n`. -/
  | shortFrame
deriving DecidableEq, Repr

/-- What bits stand for: a word on a command port, or bytes on the wire; `internal` for the rows that have none. -/
inductive Encoding where
  | command (w : CommandWord)
  | wire (bytes : List Byte)
  | internal
deriving DecidableEq, Repr

/-! ## Byte classes (R84) -/

/-- R84: the decode table of the delimiter recognizer, "total on all 256 values". Bits 7..4 select. -/
def classify (b : Byte) : WireClass :=
  if b.getLsbD 7 = false then .data (b.extractLsb' 0 7)
  else if b.getLsbD 6 = false then .mask (b.extractLsb' 0 6)
  else if b.getLsbD 5 = false then
    (if b.getLsbD 4 = false then .sc1 (b.extractLsb' 0 4) else .sc2 (b.extractLsb' 0 4))
  else
    (if b.getLsbD 4 = false then .ec1 (b.extractLsb' 0 4) else .ec2 (b.extractLsb' 0 4))

/-- The table row of a class. -/
def WireClass.instr : WireClass → Instr
  | .data d => .wireData d
  | .mask m => .wireMask m
  | .sc1 n => .wireSc1 n
  | .sc2 n => .wireSc2 n
  | .ec1 n => .wireEc1 n
  | .ec2 n => .wireEc2 n

def decodeWireByte (b : Byte) : Instr := (classify b).instr

/-! ## Command words (R86, R87, R88) -/

/-- R87: every command but `W.WRITE` and `H.SUBMIT` must have `arg = 0x00`. -/
def noArgument (arg : Byte) (i : Instr) : Except CommandError Instr :=
  if arg = 0x00#8 then .ok i else .error .nonZeroArgument

/-- R86: the assignment of `op` values to commands. -/
def decodeCommand (w : CommandWord) : Except CommandError Instr :=
  let op : Byte := w.extractLsb' 8 8
  let arg : Byte := w.extractLsb' 0 8
  match op.toNat with
  | 0x01 => noArgument arg .wInit
  | 0x02 => noArgument arg .wPoll
  | 0x03 => noArgument arg .wOpen
  | 0x04 => .ok (.wWrite arg)
  | 0x05 => noArgument arg .wClose
  | 0x06 => noArgument arg .wTrigger
  | 0x07 => noArgument arg .wQcount
  | 0x08 => noArgument arg .wRegout
  | 0x09 => noArgument arg .wReglsn
  | 0x0A => noArgument arg .wStatus
  | 0x11 => noArgument arg .hInit
  | 0x12 => noArgument arg .hPoll
  | 0x13 => .ok (.hSubmit arg)
  | 0x14 => noArgument arg .hRegapp
  | 0x15 => noArgument arg .hReglsn
  | 0x16 => noArgument arg .hStatus
  | 0x21 => noArgument arg .eOutget
  | 0x22 => noArgument arg .eAppget
  | 0x23 => noArgument arg .eClrapplsn
  | 0x24 => noArgument arg .eClrsendlsn
  | _ => .error .reservedOpcode

/-! ## Wire units (R79, R80, R81) -/

/-- The seven low bits of a byte whose bit 7 is clear. -/
def dataField (b : Byte) : Except DecodeError (BitVec 7) :=
  if b.getLsbD 7 = false then .ok (b.extractLsb' 0 7) else .error .notDataByte

/-- R81: the eight bytes of a block, mask first. The checksum byte may hold any value (R93). -/
def decodeBlk8 (b : Blk8) : Except DecodeError WireBlock :=
  if b.mask.extractLsb' 6 2 = 0b10#2 then do
    let d0 ← dataField b.d0
    let d1 ← dataField b.d1
    let d2 ← dataField b.d2
    let d3 ← dataField b.d3
    let d4 ← dataField b.d4
    let d5 ← dataField b.d5
    .ok ⟨b.mask.extractLsb' 0 6, b.checksum, d0, d1, d2, d3, d4, d5⟩
  else .error .notMaskByte

/-- `n` consecutive blocks from the front of a byte string, and the bytes after them. -/
def decodeBlocks : Nat → List Byte → Except DecodeError (List WireBlock × List Byte)
  | 0, rest => .ok ([], rest)
  | k + 1, mk :: c :: d0 :: d1 :: d2 :: d3 :: d4 :: d5 :: rest =>
    match decodeBlk8 ⟨mk, c, d0, d1, d2, d3, d4, d5⟩ with
    | .error e => .error e
    | .ok b =>
      match decodeBlocks k rest with
      | .error e => .error e
      | .ok (bs, rest') => .ok (b :: bs, rest')
  | _ + 1, _ => .error .shortFrame

/-- The control byte with code `code` (`b[7:4]`) and count `n` (`b[3:0]`), R82. -/
def controlByte (code : BitVec 4) (n : BitVec 4) : Byte := code ++ n

/-- R79: `0xC0|n 0xD0|n block*n 0xE0|n 0xF0|n`, `1 <= n <= 15`. -/
def decodeFrame : List Byte → Except DecodeError Instr
  | s1 :: s2 :: rest =>
    let n : BitVec 4 := s1.extractLsb' 0 4
    if s1.extractLsb' 4 4 ≠ 0xC#4 ∨ n = 0#4 then .error .notStartCode1
    else if s2 ≠ controlByte 0xD#4 n then .error .notStartCode2
    else
      match decodeBlocks n.toNat rest with
      | .error e => .error e
      | .ok (bs, tail) =>
        if tail = [controlByte 0xE#4 n, controlByte 0xF#4 n] then .ok (.frame n bs) else .error .notEndCodes
  | _ => .error .shortFrame

/-- A byte string on the wire, by its length: one byte is a byte of R84, eight are a BLOCK, any other number a FRAME
(a frame has 12 to 124 bytes, R80). -/
def decodeWire : List Byte → Except DecodeError Instr
  | [] => .error .emptyWire
  | [b] => .ok (decodeWireByte b)
  | [mk, c, d0, d1, d2, d3, d4, d5] =>
    match decodeBlk8 ⟨mk, c, d0, d1, d2, d3, d4, d5⟩ with
    | .error e => .error e
    | .ok b => .ok (.block b)
  | l => decodeFrame l

/-- Total on every encoding. -/
def decode : Encoding → Except DecodeError Instr
  | .command w =>
    match decodeCommand w with
    | .error e => .error (.command e)
    | .ok i => .ok i
  | .wire bytes => decodeWire bytes
  | .internal => .error .noEncoding

/-! ## Encoding -/

/-- R86: the command word `op << 8 | arg`. -/
def commandWord (op arg : Byte) : CommandWord := op ++ arg

/-- The byte of a wire class (R84). -/
def WireClass.byte : WireClass → Byte
  | .data d => 0#1 ++ d
  | .mask m => 0b10#2 ++ m
  | .sc1 n => controlByte 0xC#4 n
  | .sc2 n => controlByte 0xD#4 n
  | .ec1 n => controlByte 0xE#4 n
  | .ec2 n => controlByte 0xF#4 n

/-- The eight bytes of a wire block (R81). -/
def WireBlock.toBlk8 (b : WireBlock) : Blk8 :=
  ⟨0b10#2 ++ b.m, b.c, 0#1 ++ b.d0, 0#1 ++ b.d1, 0#1 ++ b.d2, 0#1 ++ b.d3, 0#1 ++ b.d4, 0#1 ++ b.d5⟩

/-- The bytes of a block in wire order (R67, R81). -/
def Blk8.toList (b : Blk8) : List Byte := [b.mask, b.checksum, b.d0, b.d1, b.d2, b.d3, b.d4, b.d5]

/-- The bytes of a frame in wire order (R79). -/
def frameBytes (n : BitVec 4) (blocks : List Blk8) : List Byte :=
  [controlByte 0xC#4 n, controlByte 0xD#4 n] ++ blocks.flatMap Blk8.toList ++
    [controlByte 0xE#4 n, controlByte 0xF#4 n]

/-- The bits of an instruction, from the tables of R79, R81, R84 and R86. -/
def encode : Instr → Encoding
  | .wInit => .command (commandWord 0x01#8 0x00#8)
  | .wPoll => .command (commandWord 0x02#8 0x00#8)
  | .wOpen => .command (commandWord 0x03#8 0x00#8)
  | .wWrite b => .command (commandWord 0x04#8 b)
  | .wClose => .command (commandWord 0x05#8 0x00#8)
  | .wTrigger => .command (commandWord 0x06#8 0x00#8)
  | .wQcount => .command (commandWord 0x07#8 0x00#8)
  | .wRegout => .command (commandWord 0x08#8 0x00#8)
  | .wReglsn => .command (commandWord 0x09#8 0x00#8)
  | .wStatus => .command (commandWord 0x0A#8 0x00#8)
  | .hInit => .command (commandWord 0x11#8 0x00#8)
  | .hPoll => .command (commandWord 0x12#8 0x00#8)
  | .hSubmit b => .command (commandWord 0x13#8 b)
  | .hRegapp => .command (commandWord 0x14#8 0x00#8)
  | .hReglsn => .command (commandWord 0x15#8 0x00#8)
  | .hStatus => .command (commandWord 0x16#8 0x00#8)
  | .eOutget => .command (commandWord 0x21#8 0x00#8)
  | .eAppget => .command (commandWord 0x22#8 0x00#8)
  | .eClrapplsn => .command (commandWord 0x23#8 0x00#8)
  | .eClrsendlsn => .command (commandWord 0x24#8 0x00#8)
  | .wSpin => .internal
  | .codecEncode _ => .internal
  | .codecDecode _ => .internal
  | .wireData d => .wire [(WireClass.data d).byte]
  | .wireMask m => .wire [(WireClass.mask m).byte]
  | .wireSc1 n => .wire [(WireClass.sc1 n).byte]
  | .wireSc2 n => .wire [(WireClass.sc2 n).byte]
  | .wireEc1 n => .wire [(WireClass.ec1 n).byte]
  | .wireEc2 n => .wire [(WireClass.ec2 n).byte]
  | .frame n blocks => .wire (frameBytes n (blocks.map WireBlock.toBlk8))
  | .block b => .wire b.toBlk8.toList

/-! ## The table's own numbering -/

/-- The first `k` bytes of `w`, byte 0 in its bits 7..0. -/
def bytesOf : Nat → Nat → List Byte
  | 0, _ => []
  | k + 1, w => BitVec.ofNat 8 w :: bytesOf k (w / 256)

/-- The instruction the decoder reads from a table row's bits `w`: 16 bits are a command word, any other whole number
of bytes a byte string on the wire with its first byte in bits 7..0. -/
def decodeTableWord (nbits w : Nat) : Option Instr :=
  if nbits = 16 then (decodeCommand (BitVec.ofNat 16 w)).toOption
  else if nbits % 8 = 0 then (decodeWire (bytesOf (nbits / 8) w)).toOption
  else none

/-! ## The spec's program notation (R90, R91) -/

/-- R90: one line of a command sequence: a command, how often in a row it is issued, and a comment. -/
structure AsmLine where
  times : Nat
  instr : Instr
  comment : String
deriving DecidableEq, Repr

/-- The name the spec's text and the opcode table give an instruction. -/
def Instr.mnemonic : Instr → String
  | .wInit => "W.INIT"
  | .wPoll => "W.POLL"
  | .wOpen => "W.OPEN"
  | .wWrite _ => "W.WRITE"
  | .wClose => "W.CLOSE"
  | .wTrigger => "W.TRIGGER"
  | .wQcount => "W.QCOUNT"
  | .wRegout => "W.REGOUT"
  | .wReglsn => "W.REGLSN"
  | .wStatus => "W.STATUS"
  | .hInit => "H.INIT"
  | .hPoll => "H.POLL"
  | .hSubmit _ => "H.SUBMIT"
  | .hRegapp => "H.REGAPP"
  | .hReglsn => "H.REGLSN"
  | .hStatus => "H.STATUS"
  | .eOutget => "E.OUTGET"
  | .eAppget => "E.APPGET"
  | .eClrapplsn => "E.CLRAPPLSN"
  | .eClrsendlsn => "E.CLRSENDLSN"
  | .wSpin => "W.SPIN"
  | .codecEncode _ => "ENCODE"
  | .codecDecode _ => "DECODE"
  | .wireData _ => "WIRE.DATA"
  | .wireMask _ => "WIRE.MASK"
  | .wireSc1 _ => "WIRE.SC1"
  | .wireSc2 _ => "WIRE.SC2"
  | .wireEc1 _ => "WIRE.EC1"
  | .wireEc2 _ => "WIRE.EC2"
  | .frame _ _ => "FRAME"
  | .block _ => "BLOCK"

/-- R90: the command words of a line, `N*` of them; a row that has no command word is no line. -/
def AsmLine.words (l : AsmLine) : List CommandWord :=
  match encode l.instr with
  | .command w => List.replicate l.times w
  | .wire _ => []
  | .internal => []

/-- R91: `SEND [b0, ..., bk-1]` expands to `W.OPEN`, `W.WRITE bi`, `W.CLOSE`. -/
def sendLines (payload : List Byte) : List AsmLine :=
  [⟨1, .wOpen, ""⟩] ++ payload.map (fun b => ⟨1, .wWrite b, ""⟩) ++ [⟨1, .wClose, ""⟩]

/-- R91: `FEED [b0, ..., bk-1]` expands to `H.SUBMIT bi`. -/
def feedLines (bytes : List Byte) : List AsmLine :=
  bytes.map (fun b => ⟨1, .hSubmit b, ""⟩)

end Sys2Proof
end

