-- ==== Sys2Proof/Machine/State.lean ====
section
/-!
DEFINITION. The machine's state as plain data: every register of 10_state.md, the four byte buffers of R55, the two
listener flags of R49, the observables of R17 (error histories, the response of a command), and the model's own data
that says which agent takes the next step (R183). Then the reasons a step can stop, and the state after reset.
-/

namespace Sys2Proof.Machine

/-- `W.state`, R23. The codes of the states are in Machine/Flags.lean. -/
inductive WState where
  | idle
  | waitForTrigger
  | lockBuffer
  | computeBlockCount
  | emitStart1
  | emitStart2
  | initBlock
  | fillBlock
  | emitBlockBytes
  | unlockBuffer
  | emitEnd1
  | emitEnd2
  | signalListener
  | waitAck
  | reset
  | processError
deriving DecidableEq, Repr

/-- `H.state`, R36. -/
inductive HState where
  | idle
  | waitForBytes
  | getByte
  | handleBlock
  | checkFinal
  | waitProcessed
  | completeReset
  | processError
deriving DecidableEq, Repr

/-- The writer's error kinds, R172, in the order of their codes; `none` is code 0. -/
inductive WriterError where
  | none
  | alreadyOpen
  | notOpen
  | alreadyTriggered
  | payloadTooLarge
  | bufferFull
deriving DecidableEq, Repr

/-- The handler's error kinds, R173, in the order of their codes; `none` is code 0. -/
inductive HandlerError where
  | none
  | listenerNotRegistered
  | inboundWriteFailed
  | outboundWriteFailed
  | blockIndexOutOfBounds
  | excessiveStuffing
  | start1WithoutStart2
  | reentrantBlock
  | unexpectedControlByte
  | checksumMismatch
  | markerOutOfPositionSequence
  | markerAccumulatorInvalid
deriving DecidableEq, Repr

/-- R89: the response codes a command returns. -/
inductive ResponseCode where
  | ok
  | alreadyOpen
  | notOpen
  | alreadyTriggered
  | bufferFull
deriving DecidableEq, Repr

/-- What the last instruction answered. A command answers a response code and a data word (R89), or is held (R15 (b)).
The codec functions answer their result (R94, R97). -/
inductive Answer where
  /-- Nothing has answered yet (the launch state). -/
  | nothing
  /-- R15 (a), R89: the step completed and returned a response. -/
  | response (code : ResponseCode) (data : DataWord)
  /-- R15 (b): the step is not enabled in this state; the command stays with the agent that issues it. -/
  | held
  /-- `ENCODE` returned these eight bytes (R94). -/
  | encoded (blk : Blk8)
  /-- `DECODE` returned these six bytes (R97). -/
  | decoded (raw : Raw6)
  /-- `DECODE` returned `ChecksumMismatch` (R97). -/
  | checksumMismatch
deriving DecidableEq, Repr

/-- R55: a byte buffer. `contents` is what a reader can take, oldest first; `pending` and `rw` serve the reversible
write, `locked` the write lock. Its capacity is a parameter (R8), not part of the record. -/
structure Buffer where
  contents : List Byte
  pending : List Byte
  rw : Bool
  locked : Bool
deriving DecidableEq, Repr

/-- R48, R54: the four buffers, the block's only memory (R53: there is no address space). `inb` is the spec's `IN`. -/
structure Memory where
  src : Buffer
  out : Buffer
  inb : Buffer
  app : Buffer
deriving DecidableEq, Repr

/-- The writer's registers, R22 to R34, each under the spec's name with the spec's width. `queued` has `Q_W` bits, a
parameter (R9), so it is a number kept below `2^Q_W` (R26). -/
structure Writer where
  initialized : Bool
  state : WState
  busy : Bool
  composing : Bool
  queued : Nat
  triggered : Bool
  n : BitVec 4
  remaining : BitVec 7
  bidx : BitVec 4
  raw : Raw6
  enc : Blk8
  byteIdx : BitVec 4
  lastError : WriterError
  regOut : Bool
  regLsn : Bool
deriving DecidableEq, Repr

/-- The handler's registers, R35 to R46. -/
structure Handler where
  initialized : Bool
  state : HState
  acc : BitVec 4
  frameN : BitVec 4
  blocks : BitVec 4
  i : BitVec 3
  blk : Blk8
  cur : Byte
  pend : HandlerError
  rwOpen : Bool
  lastError : HandlerError
  regApp : Bool
  regLsn : Bool
deriving DecidableEq, Repr

/-- R183: the agents that issue commands. -/
inductive Agent where
  | writer
  | handler
  | transport
  | consumer
deriving DecidableEq, Repr

/-- One turn of the interleaving of R72 and R183: an agent issues its next command, or the writer takes its internal
step `W.SPIN` (R122). -/
inductive Turn where
  | command (a : Agent)
  | spin
deriving DecidableEq, Repr

/-- The command words each agent has yet to issue, in order (the model's own data, notes/assumptions/5). -/
structure Queues where
  writer : List CommandWord
  handler : List CommandWord
  transport : List CommandWord
  consumer : List CommandWord
deriving DecidableEq, Repr

/-- One instance of the block with its agents (R10). -/
structure State where
  params : Params
  writer : Writer
  handler : Handler
  mem : Memory
  sendLsn : Bool
  appLsn : Bool
  writerHistory : List WriterError
  handlerHistory : List HandlerError
  answer : Answer
  queues : Queues
  turns : List Turn
deriving DecidableEq, Repr

/-- Reasons the machine itself stops: there are none. The block has no traps (R14), every step is a next state, a hold
or a refusal (R15), and an error of the spec is a next state (R177, R178). The type has no constructor, so no step can
fault; nothing is unsafe about it. -/
inductive Fault where
deriving DecidableEq, Repr

/-- R15 (c): the reasons a step is refused. "A refusal is never turned into a value." Every one of them is the spec's own
refusal, but for `notModelled` and `operandOutOfRange`, and stopping is safe. -/
inductive Refusal where
  /-- Raised by exec's arm of an instruction that has no meaning yet; safe. No arm raises it now. -/
  | notModelled (mnemonic : String)
  /-- R88: raised by the step on a command word whose `op` is reserved; the spec refuses it; safe. -/
  | reservedOpcode
  /-- R87: raised by the step on a non-zero `arg` where none is allowed; the spec refuses it; safe. -/
  | nonZeroArgument
  /-- R101 (2), R192: raised by a writer-port command other than `W.INIT`, or a wire unit the writer emits, while
  `W.initialized = 0`; the spec refuses it; safe. -/
  | writerNotInitialized
  /-- R136 (2), R192: raised by a handler-port command other than `H.INIT`, or a wire byte the handler takes, while
  `H.initialized = 0`; the spec refuses it; safe. -/
  | handlerNotInitialized
  /-- R108, R109: raised by `W.REGOUT` and `W.REGLSN` outside `Idle`; the spec refuses it; safe. -/
  | writerNotIdle
  /-- R138, R139: raised by `H.REGAPP` and `H.REGLSN` outside `Idle`; the spec refuses it; safe. -/
  | handlerNotIdle
  /-- R94: raised by `ENCODE` on an operand that is not 1 to 6 bytes, which the spec gives no result; safe. -/
  | operandOutOfRange
deriving DecidableEq, Repr

/-- A buffer with nothing in it, unlocked, with no reversible write (R196). -/
def Buffer.empty : Buffer := ⟨[], [], false, false⟩

/-- R196, R192: the launch state, before the first step. The `initialized` and registration bits, the buffers and the
flags are the spec's; R192 leaves every other register unspecified here, and the model names the value its `INIT`
gives it, zero for the byte arrays and `H.cur` (DESIGN CHOICE, unsafe, notes/assumptions/1). -/
def State.reset : State where
  params := Config.params
  writer :=
    { initialized := false
      state := .idle
      busy := false
      composing := false
      queued := 0
      triggered := false
      n := 0#4
      remaining := 0#7
      bidx := 0#4
      raw := ⟨0#8, 0#8, 0#8, 0#8, 0#8, 0#8⟩
      enc := ⟨0#8, 0#8, 0#8, 0#8, 0#8, 0#8, 0#8, 0#8⟩
      byteIdx := 0#4
      lastError := .none
      regOut := false
      regLsn := false }
  handler :=
    { initialized := false
      state := .idle
      acc := 0#4
      frameN := 0#4
      blocks := 0#4
      i := 0#3
      blk := ⟨0#8, 0#8, 0#8, 0#8, 0#8, 0#8, 0#8, 0#8⟩
      cur := 0#8
      pend := .none
      rwOpen := false
      lastError := .none
      regApp := false
      regLsn := false }
  mem := ⟨Buffer.empty, Buffer.empty, Buffer.empty, Buffer.empty⟩
  sendLsn := false
  appLsn := false
  writerHistory := []
  handlerHistory := []
  answer := .nothing
  queues := ⟨[], [], [], []⟩
  turns := []

end Sys2Proof.Machine
end

