-- ==== Sys2Proof/Machine/Operands.lean ====
section
/-!
DEFINITION. The operand forms: the bytes of the two fixed arrays by index and as lists, the six lanes of the codec
(R94, R96, R97), the blocks of a payload, and the fields of a byte on the wire.
-/

namespace Sys2Proof.Machine

/-! ## The fixed arrays -/

/-- The six bytes in index order. -/
def rawList (r : Raw6) : List Byte := [r.b0, r.b1, r.b2, r.b3, r.b4, r.b5]

/-- R94, R120: the six-byte block of up to six bytes, padded at the end with the sentinel `0xFF`. -/
def pad6 (bytes : List Byte) : Raw6 :=
  ⟨bytes.getD 0 Config.pad, bytes.getD 1 Config.pad, bytes.getD 2 Config.pad, bytes.getD 3 Config.pad,
    bytes.getD 4 Config.pad, bytes.getD 5 Config.pad⟩

/-- `H.blk[k] <- v` (R158, R159). -/
def setByte (b : Blk8) (k : Nat) (v : Byte) : Blk8 :=
  match k with
  | 0 => { b with mask := v }
  | 1 => { b with checksum := v }
  | 2 => { b with d0 := v }
  | 3 => { b with d1 := v }
  | 4 => { b with d2 := v }
  | 5 => { b with d3 := v }
  | 6 => { b with d4 := v }
  | 7 => { b with d5 := v }
  | _ => b

/-- The six data bytes of a block, `blk[2..7]`. -/
def dataBytes (b : Blk8) : Raw6 := ⟨b.d0, b.d1, b.d2, b.d3, b.d4, b.d5⟩

/-! ## The lanes of the codec -/

/-- R94: the masked byte of a lane: the raw byte with its high bit cleared. -/
def maskedByte (r : Byte) : Byte := if r.getLsbD 7 then r &&& 0x7F#8 else r

/-- R94: what lane `j` ORs into the mask: bit `j`, if the raw byte's high bit is set. -/
def maskBit (r : Byte) (j : Nat) : Byte := if r.getLsbD 7 then 1#8 <<< j else 0#8

/-- R97: the raw byte of lane `j`: the masked byte with `0x80` ORed back where mask bit `j` is set. -/
def demaskedByte (mask d : Byte) (j : Nat) : Byte := d ||| (if mask.getLsbD j then 0x80#8 else 0#8)

/-- R94: the six masked data bytes of a raw block. -/
def maskedBytes (r : Raw6) : Raw6 :=
  ⟨maskedByte r.b0, maskedByte r.b1, maskedByte r.b2, maskedByte r.b3, maskedByte r.b4, maskedByte r.b5⟩

/-- R94: the mask byte of a raw block, accumulated from `0x80`. -/
def maskByte (r : Raw6) : Byte :=
  Config.maskBase ||| maskBit r.b0 0 ||| maskBit r.b1 1 ||| maskBit r.b2 2 ||| maskBit r.b3 3 ||| maskBit r.b4 4
    ||| maskBit r.b5 5

/-- R97: the six raw bytes of a block. -/
def demaskedBytes (b : Blk8) : Raw6 :=
  ⟨demaskedByte b.mask b.d0 0, demaskedByte b.mask b.d1 1, demaskedByte b.mask b.d2 2, demaskedByte b.mask b.d3 3,
    demaskedByte b.mask b.d4 4, demaskedByte b.mask b.d5 5⟩

/-! ## Fields of a byte -/

/-- R84, R145: a MASK byte, `b[7:6] == 0b10`. -/
def isBoundary (b : Byte) : Bool := b.extractLsb' 6 2 == 0b10#2

end Sys2Proof.Machine
end

