-- ==== Sys2Proof/Machine/Flags.lean ====
section
/-!
DEFINITION. Codes, flags and status words: the numeric codes of states, errors and responses (R23, R36, R89, R172, R173),
the marker accumulator's legal values (R37), and the two status words (R50, R51).
-/

namespace Sys2Proof.Machine

/-- R23. -/
def WState.code : WState → BitVec 4
  | .idle => 0#4
  | .waitForTrigger => 1#4
  | .lockBuffer => 2#4
  | .computeBlockCount => 3#4
  | .emitStart1 => 4#4
  | .emitStart2 => 5#4
  | .initBlock => 6#4
  | .fillBlock => 7#4
  | .emitBlockBytes => 8#4
  | .unlockBuffer => 9#4
  | .emitEnd1 => 10#4
  | .emitEnd2 => 11#4
  | .signalListener => 12#4
  | .waitAck => 13#4
  | .reset => 14#4
  | .processError => 15#4

/-- R36. -/
def HState.code : HState → BitVec 3
  | .idle => 0#3
  | .waitForBytes => 1#3
  | .getByte => 2#3
  | .handleBlock => 3#3
  | .checkFinal => 4#3
  | .waitProcessed => 5#3
  | .completeReset => 6#3
  | .processError => 7#3

/-- R172: the value of `W.lastError`. -/
def WriterError.code : WriterError → BitVec 3
  | .none => 0#3
  | .alreadyOpen => 1#3
  | .notOpen => 2#3
  | .alreadyTriggered => 3#3
  | .payloadTooLarge => 4#3
  | .bufferFull => 5#3

/-- R173: the value of `H.lastError` and `H.pend`. -/
def HandlerError.code : HandlerError → BitVec 4
  | .none => 0#4
  | .listenerNotRegistered => 1#4
  | .inboundWriteFailed => 2#4
  | .outboundWriteFailed => 3#4
  | .blockIndexOutOfBounds => 4#4
  | .excessiveStuffing => 5#4
  | .start1WithoutStart2 => 6#4
  | .reentrantBlock => 7#4
  | .unexpectedControlByte => 8#4
  | .checksumMismatch => 9#4
  | .markerOutOfPositionSequence => 10#4
  | .markerAccumulatorInvalid => 11#4

/-- R89: "Response codes: 0 `OK`, 1 `AlreadyOpen`, 2 `NotOpen`, 3 `AlreadyTriggered`, 5 `BufferFull`". -/
def ResponseCode.code : ResponseCode → BitVec 3
  | .ok => 0#3
  | .alreadyOpen => 1#3
  | .notOpen => 2#3
  | .alreadyTriggered => 3#3
  | .bufferFull => 5#3

/-! ## The marker accumulator (R37) -/

/-- `NONE`. -/
abbrev accNone : BitVec 4 := 0#4
/-- `PRESTART`. -/
abbrev accPrestart : BitVec 4 := 1#4
/-- `STARTED`. -/
abbrev accStarted : BitVec 4 := 3#4
/-- `PREFINISH`. -/
abbrev accPrefinish : BitVec 4 := 7#4
/-- `FINISHED`. -/
abbrev accFinished : BitVec 4 := 15#4

/-- R37: "Only these five values are legal at any sample point". -/
def accLegal (a : BitVec 4) : Bool :=
  a == accNone || a == accPrestart || a == accStarted || a == accPrefinish || a == accFinished

/-! ## Status words -/

/-- One status bit. -/
def bit (b : Bool) : BitVec 1 := BitVec.ofBool b

/-- R50: the writer status word; reserved bits read as 0. -/
def writerStatus (s : State) : DataWord :=
  let w := s.writer
  0#8 ++ w.byteIdx ++ w.bidx ++ w.n ++ 0#1 ++ w.lastError.code ++ bit s.mem.src.locked ++ bit w.busy ++
    bit w.triggered ++ bit w.composing ++ w.state.code

/-- R51: the handler status word; reserved bits read as 0. -/
def handlerStatus (s : State) : DataWord :=
  let h := s.handler
  0#4 ++ h.pend.code ++ 0#1 ++ h.i ++ h.frameN ++ h.blocks ++ h.lastError.code ++ h.acc ++ bit h.rwOpen ++
    h.state.code

/-- R89, R107: `zext_32(W.queued)`. A counter of 32 bits or more with a value that does not fit has no stated answer:
that value is free (DESIGN CHOICE, notes/assumptions/4). -/
def queuedWord (q : Nat) : DataWord :=
  if q < 2 ^ 32 then BitVec.ofNat 32 q else Config.qcountBeyond32 q

/-- R89: the "empty" answer of `E.OUTGET` and `E.APPGET`. -/
abbrev emptyWord : DataWord := 0x100#32

/-- R12: `satinc(x) = min(x + 1, 2^Q_W - 1)`. -/
def satInc (qw x : Nat) : Nat := min (x + 1) (2 ^ qw - 1)

/-- R12: `satdec(x) = max(x - 1, 0)`. -/
def satDec (x : Nat) : Nat := x - 1

end Sys2Proof.Machine
end

