-- ==== Sys2Proof/Machine/Ops.lean ====
section
/-!
DEFINITION. The operations the meanings share: field updates of the state, the buffer primitives (20_memory.md
section 2), answering and holding, the guards of the two ports (R101, R136), recording an error, entering and leaving
the error state (60_exceptions.md section 2), and the agents' command queues.
-/

namespace Sys2Proof.Machine

/-! ## Updates, one field each -/

def State.setWriter (s : State) (w : Writer) : State := { s with writer := w }
def State.setHandler (s : State) (h : Handler) : State := { s with handler := h }
def State.setSrc (s : State) (b : Buffer) : State := { s with mem := { s.mem with src := b } }
def State.setOut (s : State) (b : Buffer) : State := { s with mem := { s.mem with out := b } }
def State.setIn (s : State) (b : Buffer) : State := { s with mem := { s.mem with inb := b } }
def State.setApp (s : State) (b : Buffer) : State := { s with mem := { s.mem with app := b } }
def State.setSendLsn (s : State) (v : Bool) : State := { s with sendLsn := v }
def State.setAppLsn (s : State) (v : Bool) : State := { s with appLsn := v }
def State.setWriterHistory (s : State) (l : List WriterError) : State := { s with writerHistory := l }
def State.setHandlerHistory (s : State) (l : List HandlerError) : State := { s with handlerHistory := l }
def State.setAnswer (s : State) (a : Answer) : State := { s with answer := a }
def State.setQueues (s : State) (q : Queues) : State := { s with queues := q }
def State.setTurns (s : State) (t : List Turn) : State := { s with turns := t }

/-- `W.state <- S` (R12, R21). -/
def State.gotoW (s : State) (q : WState) : State := s.setWriter { s.writer with state := q }

/-- `H.state <- S` (R12, R21). -/
def State.gotoH (s : State) (q : HState) : State := s.setHandler { s.handler with state := q }

/-! ## Buffer primitives -/

/-- R56: `Put(B, v)`; `none` is `full`. The capacity check counts pending bytes; a locked buffer rejects (R64). -/
def Buffer.put (cap : Nat) (b : Buffer) (v : Byte) : Option Buffer :=
  if b.contents.length + b.pending.length = cap then none
  else if b.locked then none
  else if b.rw then some { b with pending := b.pending ++ [v] }
  else some { b with contents := b.contents ++ [v] }

/-- `Put` of several bytes, one by one, stopping at the first that is rejected; with the bytes not accepted. -/
def Buffer.putAll (cap : Nat) : Buffer → List Byte → Buffer × List Byte
  | b, [] => (b, [])
  | b, v :: vs =>
    match b.put cap v with
    | none => (b, v :: vs)
    | some b' => Buffer.putAll cap b' vs

/-- R57: `Get(B)`; `none` is `empty`. Pending bytes are not taken. -/
def Buffer.get (b : Buffer) : Option (Byte × Buffer) :=
  match b.contents with
  | [] => none
  | v :: rest => some (v, { b with contents := rest })

/-- R58. -/
def Buffer.isEmpty (b : Buffer) : Bool := b.contents.isEmpty

/-- R58. -/
def Buffer.fill (b : Buffer) : Nat := b.contents.length

/-- R59: `OpenRW`. -/
def Buffer.openRW (b : Buffer) : Buffer := { b with rw := true, pending := [] }

/-- R60: `CommitRW`. -/
def Buffer.commitRW (b : Buffer) : Buffer := { b with contents := b.contents ++ b.pending, pending := [], rw := false }

/-- R61: `ReverseRW`. -/
def Buffer.reverseRW (b : Buffer) : Buffer := { b with pending := [], rw := false }

/-- R62: `AcquireLock`; `none` is `busy`. -/
def Buffer.acquireLock (b : Buffer) : Option Buffer :=
  if b.locked then none else some { b with locked := true }

/-- R63: `ReleaseLock`. -/
def Buffer.releaseLock (b : Buffer) : Buffer := { b with locked := false }

/-- `B.contents <- []`. -/
def Buffer.clear (b : Buffer) : Buffer := { b with contents := [] }

/-! ## Answers and guards -/

/-- `return (code, data)` (R89). -/
def State.respond (s : State) (code : ResponseCode) (data : DataWord) : State := s.setAnswer (.response code data)

/-- R15 (b): the step is not enabled; nothing changes but the answer. -/
def hold (s : State) : Host.Outcome State Fault Refusal := .next (s.setAnswer .held)

/-- R101: the guards of the writer port, in the spec's order (the operand was checked by the decoder). `whileBusy` is
the exemption of `W.STATUS` and `W.QCOUNT`. -/
def writerPort (whileBusy : Bool) (s : State) (k : Host.Outcome State Fault Refusal) :
    Host.Outcome State Fault Refusal :=
  if s.writer.initialized = false then .refused .writerNotInitialized
  else if s.writer.busy = true ∧ whileBusy = false then hold s
  else k

/-- R136: the guards of the handler port. -/
def handlerPort (s : State) (k : Host.Outcome State Fault Refusal) : Host.Outcome State Fault Refusal :=
  if s.handler.initialized = false then .refused .handlerNotInitialized else k

/-! ## Errors: recording, entry, return -/

/-- R175: `raise E` for a writer error. -/
def State.raiseW (s : State) (e : WriterError) : State :=
  (s.setWriter { s.writer with lastError := e }).setWriterHistory (s.writerHistory ++ [e])

/-- R175: `raise E` for a handler error. -/
def State.raiseH (s : State) (e : HandlerError) : State :=
  (s.setHandler { s.handler with lastError := e }).setHandlerHistory (s.handlerHistory ++ [e])

/-- R14: `pend <- E`. -/
def State.pendH (s : State) (e : HandlerError) : State := s.setHandler { s.handler with pend := e }

/-- R128: finish the frame. -/
def State.finishFrame (s : State) : State :=
  let q := satDec s.writer.queued
  s.setWriter { s.writer with
    queued := q, triggered := decide (q ≠ 0), n := 0#4, bidx := 0#4, remaining := 0#7, byteIdx := 0#4 }

/-- R47: the per-frame clear of the handler. -/
def State.perFrameClear (s : State) : State :=
  s.setHandler { s.handler with acc := accNone, frameN := 0#4, blocks := 0#4, i := 0#3, pend := .none }

/-- R178: entering the writer's error state; the error was raised when it was found. -/
def State.enterErrorW (s : State) : State := s.gotoW .processError

/-- R178: entering the handler's error state; the error is held in `H.pend`. Nothing is saved. -/
def State.enterErrorH (s : State) : State := s.gotoH .processError

/-- R130, R179: return from the writer's error state. -/
def State.leaveErrorW (s : State) : State :=
  ((s.setSrc s.mem.src.releaseLock).finishFrame).gotoW .idle

/-- R150: `if H.rwOpen == 1: ReverseRW(APP); H.rwOpen <- 0`. -/
def State.reverseIfOpen (s : State) : State :=
  if s.handler.rwOpen then (s.setApp s.mem.app.reverseRW).setHandler { s.handler with rwOpen := false } else s

/-- R150, R179: return from the handler's error state: the frame is undone, the pending error raised. -/
def State.leaveErrorH (s : State) : State :=
  (((s.reverseIfOpen).raiseH s.handler.pend).perFrameClear).gotoH .idle

/-! ## The agents' queues (notes/assumptions/5) -/

/-- The commands an agent has yet to issue. -/
def Queues.of (q : Queues) : Agent → List CommandWord
  | .writer => q.writer
  | .handler => q.handler
  | .transport => q.transport
  | .consumer => q.consumer

/-- The queues with one agent's replaced. -/
def Queues.set (q : Queues) (a : Agent) (l : List CommandWord) : Queues :=
  match a with
  | .writer => { q with writer := l }
  | .handler => { q with handler := l }
  | .transport => { q with transport := l }
  | .consumer => { q with consumer := l }

/-- The agent has issued its first command. -/
def State.retire (s : State) (a : Agent) : State := s.setQueues (s.queues.set a ((s.queues.of a).drop 1))

/-- R15: after a command's step: a held command stays with its agent, any other has been issued. -/
def afterCommand (a : Agent) (o : Host.Outcome State Fault Refusal) : Host.Outcome State Fault Refusal :=
  match o with
  | .next t => if t.answer = .held then .next t else .next (t.retire a)
  | .fault f => .fault f
  | .refused r => .refused r

/-- R87, R88: the refusal of a command word that is no command. -/
def refusalOf : CommandError → Refusal
  | .reservedOpcode => .reservedOpcode
  | .nonZeroArgument => .nonZeroArgument

/-- The agent whose queue a command word is placed in by `withFetchWord`: the one R183 says issues the command. Op `0x13`
is `H.SUBMIT`, the transport's, though it is a command of the handler port. -/
def agentOf (w : CommandWord) : Agent :=
  let op : Byte := w.extractLsb' 8 8
  if op ≤ 0x10#8 then .writer
  else if op = 0x13#8 ∨ op = 0x21#8 then .transport
  else if op ≤ 0x20#8 then .handler
  else .consumer

end Sys2Proof.Machine
end

