-- ==== Sys2Proof/Machine/Codec.lean ====
section
/-!
DEFINITION. The block codec (40_codec.md): `ENCODE` and `DECODE` as pure functions, the blocks of a payload, and the two
table rows that run them. The codec "has no state": a row answers its result and changes nothing else.
-/

namespace Sys2Proof.Machine

/-- R94, on a block already padded: mask, checksum of the masked bytes, masked bytes. `k` names the instance's `CHECKSUM`
(R7, R10), here and below. -/
def encodeRaw6 (k : Nat) (r : Raw6) : Blk8 :=
  let d := maskedBytes r
  ⟨maskByte r, Config.checksum k d, d.b0, d.b1, d.b2, d.b3, d.b4, d.b5⟩

/-- R94: `ENCODE(raw)` for 1 to 6 bytes. -/
def encodeBlock (k : Nat) (raw : List Byte) : Blk8 := encodeRaw6 k (pad6 raw)

/-- R97: `DECODE(blk)`, `none` for `ChecksumMismatch`. The mask byte is not checked. -/
def decodeBlock (k : Nat) (b : Blk8) : Option Raw6 :=
  if Config.checksum k (dataBytes b) = b.checksum then some (demaskedBytes b) else none

/-- R132: the blocks of a payload: `n` consecutive slices of six bytes, the last one short if the payload ends in it. -/
def payloadBlocks (k : Nat) : Nat → List Byte → List Blk8
  | 0, _ => []
  | n + 1, p => encodeBlock k (p.take 6) :: payloadBlocks k n (p.drop 6)

/-- `ENCODE` (R94): answers the eight bytes. Its operand is 1 to 6 bytes; any other length has no meaning. -/
def execCodecEncode (raw : List Byte) (s : State) : Host.Outcome State Fault Refusal :=
  if 1 ≤ raw.length ∧ raw.length ≤ 6 then .next (s.setAnswer (.encoded (encodeBlock s.params.checksumId raw)))
  else .refused .operandOutOfRange

/-- `DECODE` (R97): answers the six bytes, or `ChecksumMismatch`. -/
def execCodecDecode (blk : Blk8) (s : State) : Host.Outcome State Fault Refusal :=
  .next (s.setAnswer (match decodeBlock s.params.checksumId blk with
    | some r => .decoded r
    | none => .checksumMismatch))

end Sys2Proof.Machine
end

