-- ==== Sys2Proof/Machine/Environment.lean ====
section
/-!
DEFINITION. The environment port (43_environment.md): the transport's and the consumer's commands. They are not gated by
initialization and never hold (R166).
-/

namespace Sys2Proof.Machine

/-- The data word of a `Get`: the byte, or the "empty" answer (R89). -/
def getWord (b : Buffer) : DataWord :=
  match b.get with
  | none => emptyWord
  | some (v, _) => v.zeroExtend 32

/-- The buffer after a `Get` (R57): unchanged if it was empty. -/
def afterGet (b : Buffer) : Buffer :=
  match b.get with
  | none => b
  | some (_, b') => b'

/-- `E.OUTGET` (R167). -/
def execEOutget (s : State) : Host.Outcome State Fault Refusal :=
  .next ((s.setOut (afterGet s.mem.out)).respond .ok (getWord s.mem.out))

/-- `E.APPGET` (R168): committed bytes only. -/
def execEAppget (s : State) : Host.Outcome State Fault Refusal :=
  .next ((s.setApp (afterGet s.mem.app)).respond .ok (getWord s.mem.app))

/-- `E.CLRAPPLSN` (R169). -/
def execEClrapplsn (s : State) : Host.Outcome State Fault Refusal :=
  .next ((s.setAppLsn false).respond .ok 0#32)

/-- `E.CLRSENDLSN` (R170). -/
def execEClrsendlsn (s : State) : Host.Outcome State Fault Refusal :=
  .next ((s.setSendLsn false).respond .ok 0#32)

end Sys2Proof.Machine
end

