-- ==== Sys2Proof/Machine/Handler.lean ====
section
/-!
DEFINITION. The handler-port commands (42_handler.md section 2) but `H.POLL`, and `H.INIT` (70_reset_and_hazards.md R194).
-/

namespace Sys2Proof.Machine

/-- R194: the handler's registers after `H.INIT`; the registrations, `H.blk` and `H.cur` are kept. -/
def initHandler (h : Handler) : Handler :=
  { h with
    initialized := true, state := .idle, acc := accNone, frameN := 0#4, blocks := 0#4, i := 0#3, pend := .none,
    rwOpen := false, lastError := .none }

/-- `H.INIT` (R194): never held; an open reversible write is reversed, committed bytes stay. -/
def execHInit (s : State) : Host.Outcome State Fault Refusal :=
  .next (((((s.setHandler (initHandler s.handler)).setHandlerHistory []).setApp
    (if s.mem.app.rw = true then s.mem.app.reverseRW else s.mem.app)).setIn s.mem.inb.clear).respond .ok 0#32)

/-- `H.SUBMIT b` (R137): a full `IN` loses the byte, records `InboundWriteFailed` and answers `BufferFull`. -/
def execHSubmit (b : Byte) (s : State) : Host.Outcome State Fault Refusal :=
  handlerPort s <|
    match s.mem.inb.put s.params.inCap b with
    | some inb => .next ((s.setIn inb).respond .ok 0#32)
    | none => .next ((s.raiseH .inboundWriteFailed).respond .bufferFull 0#32)

/-- `H.REGAPP` (R138). -/
def execHRegapp (s : State) : Host.Outcome State Fault Refusal :=
  handlerPort s <|
    if s.handler.state = .idle then .next ((s.setHandler { s.handler with regApp := true }).respond .ok 0#32)
    else .refused .handlerNotIdle

/-- `H.REGLSN` (R139). -/
def execHReglsn (s : State) : Host.Outcome State Fault Refusal :=
  handlerPort s <|
    if s.handler.state = .idle then .next ((s.setHandler { s.handler with regLsn := true }).respond .ok 0#32)
    else .refused .handlerNotIdle

/-- `H.STATUS` (R140). -/
def execHStatus (s : State) : Host.Outcome State Fault Refusal :=
  handlerPort s <| .next (s.respond .ok (handlerStatus s))

end Sys2Proof.Machine
end

