-- ==== Sys2Proof/Machine/HandlerPoll.lean ====
section
/-!
DEFINITION. The handler poll (42_handler.md sections 3 to 5): the delimiter recognizer (R151 to R156), the block phase
(R157 to R160), one transition per outer state (R143 to R150), and the meanings of `H.POLL` and of the six wire byte
classes.
-/

namespace Sys2Proof.Machine

/-! ## Delimiter recognizer -/

/-- R152: `REPEAT(k, old)`, a control code already seen in this frame. -/
def repeatedCode (k : Nat) (old : BitVec 4) (s : State) : State :=
  if k = 0 ∧ old = accPrestart then s.pendH .start1WithoutStart2
  else if k = 1 then s.pendH .reentrantBlock
  else s.pendH .markerOutOfPositionSequence

/-- R153: `SC1(c)`. -/
def acceptSc1 (c : BitVec 4) (s : State) : State :=
  if c = 0#4 then s.pendH .unexpectedControlByte
  else s.setHandler { s.handler with frameN := c, blocks := 0#4, i := 0#3 }

/-- R154: `SC2(c)`. -/
def acceptSc2 (c : BitVec 4) (s : State) : State :=
  if c ≠ s.handler.frameN then s.pendH .unexpectedControlByte
  else (s.setApp s.mem.app.openRW).setHandler { s.handler with rwOpen := true, blocks := 0#4, i := 0#3 }

/-- R155: `EC1(c)`. -/
def acceptEc1 (c : BitVec 4) (s : State) : State :=
  if c ≠ s.handler.frameN then s.pendH .unexpectedControlByte
  else if s.handler.blocks ≠ s.handler.frameN ∨ s.handler.i ≠ 0#3 then s.pendH .blockIndexOutOfBounds
  else s

/-- R156: `EC2(c)`. -/
def acceptEc2 (c : BitVec 4) (s : State) : State :=
  if c ≠ s.handler.frameN then s.pendH .unexpectedControlByte else s

/-- R151: `CTRL(b)` for the code `k` (0 StartCode1 to 3 EndCode2): the accumulator is ORed forward; an illegal value
waits for `CheckFinal`, a repeat is an error, and otherwise the code's own rule `accept` runs. -/
def ctrl (k : Nat) (accept : State → State) (s : State) : State :=
  let old := s.handler.acc
  let new := old ||| (1#4 <<< k)
  let s1 := s.setHandler { s.handler with acc := new }
  if accLegal new = false then s1
  else if new = old then repeatedCode k old s1
  else accept s1

/-! ## Block phase -/

/-- R158: `BOUNDARY(b)`. -/
def boundary (b : Byte) (s : State) : State :=
  if s.handler.blocks = s.handler.frameN then s.pendH .blockIndexOutOfBounds
  else s.setHandler { s.handler with blk := setByte s.handler.blk 0 b, i := 1#3 }

/-- R160: `BLOCKDONE()`: checksum test, demasking, and the push of six bytes into `APP`. -/
def blockDone (s : State) : State :=
  let s := s.setHandler { s.handler with i := 0#3 }
  match decodeBlock s.params.checksumId s.handler.blk with
  | none => s.pendH .checksumMismatch
  | some r =>
    match Buffer.putAll s.params.appCap s.mem.app (rawList r) with
    | (app, _ :: _) => (s.setApp app).pendH .outboundWriteFailed
    | (app, []) => (s.setApp app).setHandler { s.handler with blocks := s.handler.blocks + 1#4 }

/-- R159: `DATA(b)`. -/
def dataByte (b : Byte) (s : State) : State :=
  if s.handler.i = 0#3 then s.pendH .excessiveStuffing
  else
    let blk := setByte s.handler.blk s.handler.i.toNat b
    if s.handler.i.toNat + 1 = 8 then blockDone (s.setHandler { s.handler with blk := blk })
    else s.setHandler { s.handler with blk := blk, i := s.handler.i + 1#3 }

/-! ## A byte taken from `IN` (R145) -/

/-- R145: the byte leaves `IN`. -/
def State.takeIn (s : State) : State := s.setIn { s.mem.inb with contents := s.mem.inb.contents.drop 1 }

/-- R145: a DATA or MASK byte: to the block phase while the accumulator is `STARTED`, an error otherwise. -/
def takePayload (b : Byte) (s : State) : State :=
  let s := s.takeIn
  if s.handler.acc = accStarted then (s.setHandler { s.handler with cur := b }).gotoH .handleBlock
  else if s.handler.acc = accPrestart then (s.pendH .start1WithoutStart2).gotoH .checkFinal
  else (s.pendH .unexpectedControlByte).gotoH .checkFinal

/-- R145, R151: a control byte. -/
def takeControl (k : Nat) (accept : State → State) (s : State) : State :=
  (ctrl k accept s.takeIn).gotoH .checkFinal

/-- WIRE.DATA taken by `GetByte`. -/
def takeData (d : BitVec 7) (s : State) : State := takePayload (WireClass.data d).byte s
/-- WIRE.MASK taken by `GetByte`. -/
def takeMask (m : BitVec 6) (s : State) : State := takePayload (WireClass.mask m).byte s
/-- WIRE.SC1 taken by `GetByte` (R153). -/
def takeSc1 (n : BitVec 4) (s : State) : State := takeControl 0 (acceptSc1 n) s
/-- WIRE.SC2 taken by `GetByte` (R154). -/
def takeSc2 (n : BitVec 4) (s : State) : State := takeControl 1 (acceptSc2 n) s
/-- WIRE.EC1 taken by `GetByte` (R155). -/
def takeEc1 (n : BitVec 4) (s : State) : State := takeControl 2 (acceptEc1 n) s
/-- WIRE.EC2 taken by `GetByte` (R156). -/
def takeEc2 (n : BitVec 4) (s : State) : State := takeControl 3 (acceptEc2 n) s

/-! ## Transitions -/

/-- R143. -/
def pollIdleH (s : State) : State :=
  if s.handler.regApp = true ∧ s.handler.regLsn = true then s.gotoH .waitForBytes
  else s.raiseH .listenerNotRegistered

/-- R144. -/
def pollWaitForBytes (s : State) : State :=
  if s.mem.inb.isEmpty = false then s.gotoH .getByte else s

/-- R145: one byte is taken and dispatched on its class; with `IN` empty "the poll would change nothing". -/
def pollGetByte (s : State) : State :=
  match s.mem.inb.contents with
  | [] => s
  | b :: _ =>
    match classify b with
    | .data d => takeData d s
    | .mask m => takeMask m s
    | .sc1 n => takeSc1 n s
    | .sc2 n => takeSc2 n s
    | .ec1 n => takeEc1 n s
    | .ec2 n => takeEc2 n s

/-- R146. -/
def pollHandleBlock (s : State) : State :=
  let t := if isBoundary s.handler.cur = true then boundary s.handler.cur s else dataByte s.handler.cur s
  if t.handler.pend ≠ .none then t.enterErrorH else t.gotoH .checkFinal

/-- R147. -/
def pollCheckFinal (s : State) : State :=
  if s.handler.pend ≠ .none then s.enterErrorH
  else if accLegal s.handler.acc = false then (s.pendH .markerAccumulatorInvalid).enterErrorH
  else if s.handler.acc = accFinished then
    if s.handler.blocks = s.handler.frameN ∧ s.handler.i = 0#3 then
      ((s.setApp s.mem.app.commitRW).setAppLsn true).setHandler
        { s.handler with rwOpen := false, state := .waitProcessed }
    else (s.pendH .blockIndexOutOfBounds).enterErrorH
  else s.gotoH .waitForBytes

/-- R148. -/
def pollWaitProcessed (s : State) : State := if s.appLsn = false then s.gotoH .completeReset else s

/-- R149. -/
def pollCompleteReset (s : State) : State := (s.perFrameClear).gotoH .idle

/-- R150. -/
def pollProcessErrorH (s : State) : State := s.leaveErrorH

/-- R141, R142: the transition of the current `H.state`. -/
def handlerTransition (s : State) : State :=
  match s.handler.state with
  | .idle => pollIdleH s
  | .waitForBytes => pollWaitForBytes s
  | .getByte => pollGetByte s
  | .handleBlock => pollHandleBlock s
  | .checkFinal => pollCheckFinal s
  | .waitProcessed => pollWaitProcessed s
  | .completeReset => pollCompleteReset s
  | .processError => pollProcessErrorH s

/-! ## The rows -/

/-- `H.POLL` (R141): the transition, then `OK` with data word 0. -/
def execHPoll (s : State) : Host.Outcome State Fault Refusal :=
  handlerPort s (.next ((handlerTransition s).respond .ok 0#32))

/-- A wire byte is no command: it is run by the handler's poll that takes it from the front of `IN` (R145), where its
effect is `take`. Anywhere else the handler reads no byte, so the row is not enabled (notes/assumptions/7). -/
def takenFromIn (b : Byte) (take : State → State) (s : State) : Host.Outcome State Fault Refusal :=
  if s.handler.initialized = false then .refused .handlerNotInitialized
  else if s.handler.state = .getByte ∧ s.mem.inb.contents.head? = some b then .next (take s)
  else hold s

/-- A payload byte has a second step: the block phase of `HandleBlock` on `H.cur` (R146). -/
def takenOrCollected (b : Byte) (take : State → State) (s : State) : Host.Outcome State Fault Refusal :=
  if s.handler.initialized = true ∧ s.handler.state = .handleBlock ∧ s.handler.cur = b then .next (pollHandleBlock s)
  else takenFromIn b take s

/-- `WIRE.DATA` (R145, then R159 in `HandleBlock`). -/
def execWireData (d : BitVec 7) (s : State) : Host.Outcome State Fault Refusal :=
  takenOrCollected (WireClass.data d).byte (takeData d) s

/-- `WIRE.MASK` (R145, then R158 in `HandleBlock`). -/
def execWireMask (m : BitVec 6) (s : State) : Host.Outcome State Fault Refusal :=
  takenOrCollected (WireClass.mask m).byte (takeMask m) s

/-- `WIRE.SC1` (R145, R151, R153). -/
def execWireSc1 (n : BitVec 4) (s : State) : Host.Outcome State Fault Refusal :=
  takenFromIn (WireClass.sc1 n).byte (takeSc1 n) s

/-- `WIRE.SC2` (R145, R151, R154). -/
def execWireSc2 (n : BitVec 4) (s : State) : Host.Outcome State Fault Refusal :=
  takenFromIn (WireClass.sc2 n).byte (takeSc2 n) s

/-- `WIRE.EC1` (R145, R151, R155). -/
def execWireEc1 (n : BitVec 4) (s : State) : Host.Outcome State Fault Refusal :=
  takenFromIn (WireClass.ec1 n).byte (takeEc1 n) s

/-- `WIRE.EC2` (R145, R151, R156). -/
def execWireEc2 (n : BitVec 4) (s : State) : Host.Outcome State Fault Refusal :=
  takenFromIn (WireClass.ec2 n).byte (takeEc2 n) s

end Sys2Proof.Machine
end

