-- ==== Sys2Proof/Machine/Writer.lean ====
section
/-!
DEFINITION. The writer-port commands (41_writer.md section 2) and `W.INIT` (70_reset_and_hazards.md R193).
-/

namespace Sys2Proof.Machine

/-- A command that fails with an error it also returns: the recording is all its effect (R175, R177). -/
def failW (e : WriterError) (code : ResponseCode) (s : State) : Host.Outcome State Fault Refusal :=
  .next ((s.raiseW e).respond code 0#32)

/-- R193: the writer's registers after `W.INIT`; the registrations, `W.raw` and `W.enc` are kept. -/
def initWriter (w : Writer) : Writer :=
  { w with
    initialized := true, state := .idle, busy := false, composing := false, queued := 0, triggered := false,
    n := 0#4, remaining := 0#7, bidx := 0#4, byteIdx := 0#4, lastError := .none }

/-- `W.INIT` (R193). It holds while `W.busy == 1` (R101). -/
def execWInit (s : State) : Host.Outcome State Fault Refusal :=
  if s.writer.busy = true then hold s
  else
    .next ((((s.setWriter (initWriter s.writer)).setWriterHistory []).setSrc
      { s.mem.src with contents := [], locked := false }).respond .ok 0#32)

/-- `W.OPEN` (R103). -/
def execWOpen (s : State) : Host.Outcome State Fault Refusal :=
  writerPort false s <|
    if s.writer.composing = true then failW .alreadyOpen .alreadyOpen s
    else .next ((s.setWriter { s.writer with composing := true }).respond .ok 0#32)

/-- `W.WRITE b` (R104): `NotOpen` before `BufferFull` (R181 (b)); `SRC` full or locked rejects the byte (R56, R64). -/
def execWWrite (b : Byte) (s : State) : Host.Outcome State Fault Refusal :=
  writerPort false s <|
    if s.writer.composing = false then failW .notOpen .notOpen s
    else
      match s.mem.src.put s.params.srcCap b with
      | none => failW .bufferFull .bufferFull s
      | some src => .next ((s.setSrc src).respond .ok 0#32)

/-- `W.CLOSE` (R105). -/
def execWClose (s : State) : Host.Outcome State Fault Refusal :=
  writerPort false s <|
    if s.writer.composing = false then failW .notOpen .notOpen s
    else
      .next ((s.setWriter { s.writer with
        composing := false, queued := satInc s.params.qw s.writer.queued, triggered := true }).respond .ok 0#32)

/-- `W.TRIGGER` (R106). -/
def execWTrigger (s : State) : Host.Outcome State Fault Refusal :=
  writerPort false s <|
    if s.writer.triggered = true then failW .alreadyTriggered .alreadyTriggered s
    else .next ((s.setWriter { s.writer with triggered := true }).respond .ok 0#32)

/-- `W.QCOUNT` (R107): enabled while busy (R101). -/
def execWQcount (s : State) : Host.Outcome State Fault Refusal :=
  writerPort true s <| .next (s.respond .ok (queuedWord s.writer.queued))

/-- `W.REGOUT` (R108). -/
def execWRegout (s : State) : Host.Outcome State Fault Refusal :=
  writerPort false s <|
    if s.writer.state = .idle then .next ((s.setWriter { s.writer with regOut := true }).respond .ok 0#32)
    else .refused .writerNotIdle

/-- `W.REGLSN` (R109). -/
def execWReglsn (s : State) : Host.Outcome State Fault Refusal :=
  writerPort false s <|
    if s.writer.state = .idle then .next ((s.setWriter { s.writer with regLsn := true }).respond .ok 0#32)
    else .refused .writerNotIdle

/-- `W.STATUS` (R110): enabled while busy (R101); reading clears nothing. -/
def execWStatus (s : State) : Host.Outcome State Fault Refusal :=
  writerPort true s <| .next (s.respond .ok (writerStatus s))

end Sys2Proof.Machine
end

