-- ==== Sys2Proof/Machine/WriterPoll.lean ====
section
/-!
DEFINITION. The writer poll (41_writer.md section 3): one transition per state (R113 to R130), the emission loop shared by
`W.POLL` and `W.SPIN` (R121, R122), and the meanings of `W.POLL`, `W.SPIN`, `BLOCK` and `FRAME`.
-/

namespace Sys2Proof.Machine

/-! ## Transitions -/

/-- R113. -/
def pollIdleW (s : State) : State :=
  if s.writer.regOut = true ∧ s.writer.regLsn = true then s.gotoW .waitForTrigger else s

/-- R114. -/
def pollWaitForTrigger (s : State) : State :=
  if s.writer.triggered = true then s.gotoW .lockBuffer else s

/-- R115; `AcquireLock` leaves a locked buffer as it is (R62). -/
def pollLockBuffer (s : State) : State :=
  (s.setSrc ((s.mem.src.acquireLock).getD s.mem.src)).gotoW .computeBlockCount

/-- R116: `ceil(f / 6)`. -/
def blockCount (f : Nat) : Nat := (f + 5) / 6

/-- R116. -/
def pollComputeBlockCount (s : State) : State :=
  let f := s.mem.src.fill
  let n := blockCount f
  if 15 < n then ((s.setSrc s.mem.src.clear).raiseW .payloadTooLarge).enterErrorW
  else if n = 0 then (s.setSrc s.mem.src.releaseLock).gotoW .reset
  else s.setWriter { s.writer with
    n := BitVec.ofNat 4 n, remaining := BitVec.ofNat 7 f, bidx := 0#4, state := .emitStart1 }

/-- R117, R118, R124, R125: put the control byte with code `code` and count `W.n`; a full `OUT` leaves the state for the
next poll. -/
def pollEmitControl (code : BitVec 4) (after : WState) (s : State) : State :=
  match s.mem.out.put s.params.outCap (controlByte code s.writer.n) with
  | none => s
  | some out => (s.setOut out).gotoW after

/-- R119. -/
def pollInitBlock (s : State) : State :=
  s.setWriter { s.writer with byteIdx := 0#4, state := .fillBlock }

/-- R120. -/
def pollFillBlock (s : State) : State :=
  let k := min 6 s.writer.remaining.toNat
  let r := s.mem.src.contents.take k
  (s.setSrc { s.mem.src with contents := s.mem.src.contents.drop k }).setWriter { s.writer with
    remaining := s.writer.remaining - BitVec.ofNat 7 k
    raw := pad6 r
    enc := encodeBlock s.params.checksumId r
    byteIdx := 0#4
    state := .emitBlockBytes }

/-- R121: `W_EMIT()`, shared with `W.SPIN`. The bytes from `W.byteIdx` on are put into `OUT` until one is rejected. -/
def emitBlock (s : State) : State :=
  let rest := s.writer.enc.toList.drop s.writer.byteIdx.toNat
  let (out, left) := Buffer.putAll s.params.outCap s.mem.out rest
  let s := s.setOut out
  let idx := s.writer.byteIdx + BitVec.ofNat 4 (rest.length - left.length)
  match left with
  | _ :: _ => s.setWriter { s.writer with byteIdx := idx, busy := true }
  | [] =>
    let bidx := s.writer.bidx + 1#4
    s.setWriter { s.writer with
      byteIdx := idx, busy := false, bidx := bidx, state := if bidx < s.writer.n then .initBlock else .unlockBuffer }

/-- R123. -/
def pollUnlockBuffer (s : State) : State := (s.setSrc s.mem.src.releaseLock).gotoW .emitEnd1

/-- R126. -/
def pollSignalListener (s : State) : State := (s.setSendLsn true).gotoW .waitAck

/-- R127. -/
def pollWaitAck (s : State) : State := if s.sendLsn = false then s.gotoW .reset else s

/-- R129. -/
def pollReset (s : State) : State := (s.finishFrame).gotoW .idle

/-- R130. -/
def pollProcessErrorW (s : State) : State := s.leaveErrorW

/-- R111, R112: the transition of the current `W.state`. -/
def writerTransition (s : State) : State :=
  match s.writer.state with
  | .idle => pollIdleW s
  | .waitForTrigger => pollWaitForTrigger s
  | .lockBuffer => pollLockBuffer s
  | .computeBlockCount => pollComputeBlockCount s
  | .emitStart1 => pollEmitControl 0xC#4 .emitStart2 s
  | .emitStart2 => pollEmitControl 0xD#4 .initBlock s
  | .initBlock => pollInitBlock s
  | .fillBlock => pollFillBlock s
  | .emitBlockBytes => emitBlock s
  | .unlockBuffer => pollUnlockBuffer s
  | .emitEnd1 => pollEmitControl 0xE#4 .emitEnd2 s
  | .emitEnd2 => pollEmitControl 0xF#4 .signalListener s
  | .signalListener => pollSignalListener s
  | .waitAck => pollWaitAck s
  | .reset => pollReset s
  | .processError => pollProcessErrorW s

/-! ## The rows -/

/-- `W.POLL` (R111): the transition, then `OK` with data word 0, also when the poll is split (notes/assumptions/6). -/
def execWPoll (s : State) : Host.Outcome State Fault Refusal :=
  writerPort false s (.next ((writerTransition s).respond .ok 0#32))

/-- `W.SPIN` (R122): "enabled exactly when `W.busy == 1`". No command, so no response. -/
def execWSpin (s : State) : Host.Outcome State Fault Refusal :=
  if s.writer.busy = true then .next (emitBlock s) else hold s

/-- The writer stands before the emission of exactly this block (R120, R121): a `W.POLL` now emits it. -/
abbrev atBlock (b : WireBlock) (s : State) : Prop :=
  s.writer.state = .emitBlockBytes ∧ s.writer.busy = false ∧ s.writer.byteIdx = 0#4 ∧ s.writer.enc = b.toBlk8

/-- `BLOCK` (R81, R121): the writer emits the block, mask first. The row is a format, no command: it is enabled where
the writer's poll emits exactly these bytes, and is that poll's effect (notes/assumptions/7). -/
def execBlock (b : WireBlock) (s : State) : Host.Outcome State Fault Refusal :=
  if s.writer.initialized = false then .refused .writerNotInitialized
  else if atBlock b s then .next (emitBlock s)
  else hold s

/-- R132: the bytes of the locked snapshot the writer is about to send. -/
def snapshot (s : State) : List Byte := s.mem.src.contents.take s.writer.remaining.toNat

/-- The state after the writer has sent the whole frame of its snapshot, from `EmitStart1` to `SignalListener`, with
`out` the outbound buffer that took its bytes (R117 to R125). -/
def afterFrame (s : State) (out : Buffer) : State :=
  let k := s.writer.n.toNat
  let last := (snapshot s).drop (6 * (k - 1))
  let sent := min (6 * k) s.writer.remaining.toNat
  ((s.setOut out).setSrc { s.mem.src with contents := s.mem.src.contents.drop sent, locked := false }).setWriter
    { s.writer with
      state := .signalListener
      bidx := s.writer.n
      byteIdx := 8#4
      remaining := s.writer.remaining - BitVec.ofNat 7 sent
      raw := pad6 (last.take 6)
      enc := encodeBlock s.params.checksumId (last.take 6) }

/-- The writer stands before the emission of exactly this frame (R116, R117): at `EmitStart1` with this count and a
snapshot whose blocks are these. -/
abbrev atFrame (n : BitVec 4) (blocks : List WireBlock) (s : State) : Prop :=
  s.writer.state = .emitStart1 ∧ s.writer.busy = false ∧ s.writer.bidx = 0#4 ∧ s.writer.n = n ∧ n ≠ 0#4 ∧
    blocks.map WireBlock.toBlk8 = payloadBlocks s.params.checksumId n.toNat (snapshot s)

/-- `FRAME` (R79, R132): the writer emits the frame of `n` blocks, "in that order and with no other byte between them".
The row is a format, no command: it is enabled where the writer stands before exactly this frame and `OUT` takes all its
bytes, and is the net effect of the polls that send it (notes/assumptions/7). -/
def execFrame (n : BitVec 4) (blocks : List WireBlock) (s : State) : Host.Outcome State Fault Refusal :=
  if s.writer.initialized = false then .refused .writerNotInitialized
  else if atFrame n blocks s then
    match Buffer.putAll s.params.outCap s.mem.out (frameBytes n (blocks.map WireBlock.toBlk8)) with
    | (out, []) => .next (afterFrame s out)
    | (_, _ :: _) => hold s
  else hold s

end Sys2Proof.Machine
end

