-- ==== Sys2Proof/Machine/Dispatch.lean ====
section
/-!
DEFINITION. exec: one arm per constructor of Instr, each one direct call of the instruction's meaning.
-/

namespace Sys2Proof.Machine

def exec (i : Instr) (s : State) : Host.Outcome State Fault Refusal :=
  match i with
  -- 41_writer.md, 70_reset_and_hazards.md
  | .wInit => Sys2Proof.Machine.execWInit s
  | .wPoll => Sys2Proof.Machine.execWPoll s
  | .wOpen => Sys2Proof.Machine.execWOpen s
  | .wWrite b => Sys2Proof.Machine.execWWrite b s
  | .wClose => Sys2Proof.Machine.execWClose s
  | .wTrigger => Sys2Proof.Machine.execWTrigger s
  | .wQcount => Sys2Proof.Machine.execWQcount s
  | .wRegout => Sys2Proof.Machine.execWRegout s
  | .wReglsn => Sys2Proof.Machine.execWReglsn s
  | .wStatus => Sys2Proof.Machine.execWStatus s
  -- 42_handler.md, 70_reset_and_hazards.md
  | .hInit => Sys2Proof.Machine.execHInit s
  | .hPoll => Sys2Proof.Machine.execHPoll s
  | .hSubmit b => Sys2Proof.Machine.execHSubmit b s
  | .hRegapp => Sys2Proof.Machine.execHRegapp s
  | .hReglsn => Sys2Proof.Machine.execHReglsn s
  | .hStatus => Sys2Proof.Machine.execHStatus s
  -- 43_environment.md
  | .eOutget => Sys2Proof.Machine.execEOutget s
  | .eAppget => Sys2Proof.Machine.execEAppget s
  | .eClrapplsn => Sys2Proof.Machine.execEClrapplsn s
  | .eClrsendlsn => Sys2Proof.Machine.execEClrsendlsn s
  -- internal operations: 41_writer.md R122, 40_codec.md
  | .wSpin => Sys2Proof.Machine.execWSpin s
  | .codecEncode raw => Sys2Proof.Machine.execCodecEncode raw s
  | .codecDecode blk => Sys2Proof.Machine.execCodecDecode blk s
  -- wire byte classes: 42_handler.md sections 3 to 5
  | .wireData d => Sys2Proof.Machine.execWireData d s
  | .wireMask m => Sys2Proof.Machine.execWireMask m s
  | .wireSc1 n => Sys2Proof.Machine.execWireSc1 n s
  | .wireSc2 n => Sys2Proof.Machine.execWireSc2 n s
  | .wireEc1 n => Sys2Proof.Machine.execWireEc1 n s
  | .wireEc2 n => Sys2Proof.Machine.execWireEc2 n s
  -- wire units the writer emits: 30_encoding.md, 41_writer.md
  | .frame n blocks => Sys2Proof.Machine.execFrame n blocks s
  | .block b => Sys2Proof.Machine.execBlock b s

end Sys2Proof.Machine
end

