-- ==== Sys2Proof/Machine/Step.lean ====
section
/-!
DEFINITION. One step of the machine: the agent whose turn it is takes its next step (R72, R183).
-/

namespace Sys2Proof.Machine

/-- One step. With no turn left no agent steps and nothing changes; an agent with nothing to issue passes its turn. A
command word is decoded (R86 to R88) and executed; a held command stays with its agent (R15). The turn `spin` is the
writer's internal step (R122). (notes/assumptions/5) -/
def step (s : State) : Host.Outcome State Fault Refusal :=
  match s.turns with
  | [] => .next s
  | .spin :: rest => exec .wSpin (s.setTurns rest)
  | .command a :: rest =>
    match s.queues.of a with
    | [] => .next (s.setTurns rest)
    | w :: _ =>
      match decodeCommand w with
      | .error e => .refused (refusalOf e)
      | .ok i => afterCommand a (exec i (s.setTurns rest))

/-- The next turn is this agent's, and this word the command it issues. -/
def State.issueNext (s : State) (a : Agent) (w : CommandWord) : State :=
  (s.setQueues (s.queues.set a (w :: s.queues.of a))).setTurns (.command a :: s.turns)

/-- `s` with the instruction of a table row's bits placed so that the next step runs it (notes/assumptions/8). A
command word is given to an agent, which has the next turn. A byte of the wire stands at the front of `IN`, where the
handler, at `GetByte`, takes it by `H.POLL`. Eight bytes are the block the writer, at `EmitBlockBytes`, emits by
`W.POLL`. A frame is no one step's work: nothing is placed. -/
def State.withFetchWord (s : State) (nbits w : Nat) : State :=
  if nbits = 16 then s.issueNext (agentOf (BitVec.ofNat 16 w)) (BitVec.ofNat 16 w)
  else if nbits = 8 then
    ((s.setHandler { s.handler with initialized := true, state := .getByte }).setIn
      { s.mem.inb with contents := BitVec.ofNat 8 w :: s.mem.inb.contents }).issueNext .handler 0x1200#16
  else if nbits = 64 then
    (s.setWriter { s.writer with
      initialized := true, busy := false, state := .emitBlockBytes, byteIdx := 0#4,
      enc := ⟨BitVec.ofNat 8 w, BitVec.ofNat 8 (w / 256), BitVec.ofNat 8 (w / 256 ^ 2), BitVec.ofNat 8 (w / 256 ^ 3),
        BitVec.ofNat 8 (w / 256 ^ 4), BitVec.ofNat 8 (w / 256 ^ 5), BitVec.ofNat 8 (w / 256 ^ 6),
        BitVec.ofNat 8 (w / 256 ^ 7)⟩ }).issueNext .writer 0x0200#16
  else s

end Sys2Proof.Machine
end

