-- ==== Sys2Proof/Machine/Pseudo.lean ====
section
/-!
DEFINITION. The pseudo-commands of R91 that repeat commands until a state is reached, on a bound of repetitions, and a
plain number of polls. (`SEND` and `FEED` are lists of commands: Decode.lean.)
DESIGN CHOICE: "repeated until" leaves open whether the condition is tested before the first command or after it; wRun,
hRun and pump test it first, so that where it already holds no command is issued (notes/assumptions/12).
-/

namespace Sys2Proof.Machine

/-- One instruction after the other, stopping at the first that is refused. -/
def runInstrs : List Instr → State → Host.Outcome State Fault Refusal
  | [], s => .next s
  | i :: is, s =>
    match exec i s with
    | .next t => runInstrs is t
    | .fault f => .fault f
    | .refused r => .refused r

/-- `k*W.POLL` (R90). -/
def writerPolls (k : Nat) (s : State) : Host.Outcome State Fault Refusal := runInstrs (List.replicate k .wPoll) s

/-- `k*H.POLL` (R90). -/
def handlerPolls (k : Nat) (s : State) : Host.Outcome State Fault Refusal := runInstrs (List.replicate k .hPoll) s

/-- R91: where `W.RUN` stops: "`W.state` is `WaitAck`, `Idle` with `W.triggered = 0`, or the writer holds". -/
def wRunStops (s : State) : Bool :=
  s.writer.state == .waitAck || (s.writer.state == .idle && !s.writer.triggered) || s.writer.busy

/-- R91: `W.RUN`, at most `fuel` polls. DESIGN CHOICE: no poll where `wRunStops` already holds, for example in `WaitAck`
after `E.CLRSENDLSN` (notes/assumptions/12). -/
def wRun : Nat → State → Host.Outcome State Fault Refusal
  | 0, s => .next s
  | fuel + 1, s =>
    if wRunStops s then .next s
    else
      match exec .wPoll s with
      | .next t => wRun fuel t
      | .fault f => .fault f
      | .refused r => .refused r

/-- R91: where `H.RUN` stops: "`H.state` is `WaitProcessed`, or `WaitForBytes` with `IN` empty". -/
def hRunStops (s : State) : Bool :=
  s.handler.state == .waitProcessed || (s.handler.state == .waitForBytes && s.mem.inb.isEmpty)

/-- R91: `H.RUN`, at most `fuel` polls. DESIGN CHOICE: no poll where `hRunStops` already holds, for example in
`WaitProcessed` after `E.CLRAPPLSN` (notes/assumptions/12). -/
def hRun : Nat → State → Host.Outcome State Fault Refusal
  | 0, s => .next s
  | fuel + 1, s =>
    if hRunStops s then .next s
    else
      match exec .hPoll s with
      | .next t => hRun fuel t
      | .fault f => .fault f
      | .refused r => .refused r

/-- R91: `PUMP`, a loopback transport: `E.OUTGET`, then `H.SUBMIT` of the byte, until `OUT` is empty. DESIGN
CHOICE: nothing is issued where `OUT` already is (notes/assumptions/12). -/
def pump : Nat → State → Host.Outcome State Fault Refusal
  | 0, s => .next s
  | fuel + 1, s =>
    match s.mem.out.contents with
    | [] => .next s
    | v :: _ =>
      match runInstrs [.eOutget, .hSubmit v] s with
      | .next t => pump fuel t
      | .fault f => .fault f
      | .refused r => .refused r

end Sys2Proof.Machine
end

