-- ==== Sys2Proof/Safety.lean ====
section
/-!
DEFINITION. What a good state is, in the terms claims use: the buffers' canonical form (R55), the writer's and the
handler's properties (R131, R161) with what makes them inductive, and a step that is not refused (R15).
-/

namespace Sys2Proof.Machine

/-! ## Buffers -/

/-- R55: `len(contents) + len(pending) <= CAP`. -/
def Buffer.fits (cap : Nat) (b : Buffer) : Bool := decide (b.contents.length + b.pending.length ≤ cap)

/-- R55: "`pending` and `rw` are used only by `APP`". -/
def Buffer.plain (b : Buffer) : Bool := b.pending == [] && !b.rw

/-- R55: the form of the four buffers: every one within its capacity, the reversible write used by `APP` only and
nothing pending outside one, the lock used by `SRC` only. -/
def Memory.wf (p : Params) (m : Memory) : Bool :=
  m.src.fits p.srcCap && m.out.fits p.outCap && m.inb.fits p.inCap && m.app.fits p.appCap &&
  m.src.plain && m.out.plain && m.inb.plain && (m.app.rw || m.app.pending == []) &&
  !m.out.locked && !m.inb.locked && !m.app.locked

/-! ## The writer -/

/-- R131 (a): the states in which the writer holds the lock on `SRC`. -/
def WState.locks : WState → Bool
  | .computeBlockCount => true
  | .emitStart1 => true
  | .emitStart2 => true
  | .initBlock => true
  | .fillBlock => true
  | .emitBlockBytes => true
  | .unlockBuffer => true
  | .processError => true
  | .idle => false
  | .waitForTrigger => false
  | .lockBuffer => false
  | .emitEnd1 => false
  | .emitEnd2 => false
  | .signalListener => false
  | .waitAck => false
  | .reset => false

/-- R131 (c): the states `EmitStart1` through `WaitAck`, in which `W.n` is `1..15`. -/
def WState.sending : WState → Bool
  | .emitStart1 => true
  | .emitStart2 => true
  | .initBlock => true
  | .fillBlock => true
  | .emitBlockBytes => true
  | .unlockBuffer => true
  | .emitEnd1 => true
  | .emitEnd2 => true
  | .signalListener => true
  | .waitAck => true
  | .idle => false
  | .waitForTrigger => false
  | .lockBuffer => false
  | .computeBlockCount => false
  | .reset => false
  | .processError => false

/-- R131 (e): the states `LockBuffer` through `WaitAck`, and the two that finish the frame. -/
def WState.armed : WState → Bool
  | .idle => false
  | .waitForTrigger => false
  | .lockBuffer => true
  | .computeBlockCount => true
  | .emitStart1 => true
  | .emitStart2 => true
  | .initBlock => true
  | .fillBlock => true
  | .emitBlockBytes => true
  | .unlockBuffer => true
  | .emitEnd1 => true
  | .emitEnd2 => true
  | .signalListener => true
  | .waitAck => true
  | .reset => true
  | .processError => true

/-- R131 (d): the states from `ComputeBlockCount`'s success to `UnlockBuffer`. -/
def WState.draining : WState → Bool
  | .emitStart1 => true
  | .emitStart2 => true
  | .initBlock => true
  | .fillBlock => true
  | .emitBlockBytes => true
  | .unlockBuffer => true
  | .idle => false
  | .waitForTrigger => false
  | .lockBuffer => false
  | .computeBlockCount => false
  | .emitEnd1 => false
  | .emitEnd2 => false
  | .signalListener => false
  | .waitAck => false
  | .reset => false
  | .processError => false

/-- The states after the frame's last block, `UnlockBuffer` through `Reset`. -/
def WState.blocksSent : WState → Bool
  | .unlockBuffer => true
  | .emitEnd1 => true
  | .emitEnd2 => true
  | .signalListener => true
  | .waitAck => true
  | .reset => true
  | .idle => false
  | .waitForTrigger => false
  | .lockBuffer => false
  | .computeBlockCount => false
  | .emitStart1 => false
  | .emitStart2 => false
  | .initBlock => false
  | .fillBlock => false
  | .emitBlockBytes => false
  | .processError => false

/-- How many blocks' worth of source bytes may still be in `SRC`: all the blocks not yet filled. In `EmitBlockBytes` the
current block is filled already. -/
def blocksToFill (s : State) : Nat :=
  if s.writer.state = .emitBlockBytes then s.writer.n.toNat - (s.writer.bidx.toNat + 1)
  else s.writer.n.toNat - s.writer.bidx.toNat

/-- R131: the writer's properties. (c) differs in one state: in `Reset` `W.n` is 0 if nothing was sent (R116), as (c)
says, and otherwise still the sent frame's count (R127 to R129, vectors WP1 and P6), in both cases the number of blocks sent
(`all_sent`; notes/assumptions/9). The last lines are what makes the others inductive. -/
structure WriterInv (s : State) : Prop where
  /-- R131 (a). -/
  lock_iff : s.mem.src.locked = s.writer.state.locks
  /-- R131 (b). -/
  busy_imp : s.writer.busy = true → s.writer.state = .emitBlockBytes ∧ s.writer.byteIdx.toNat < 8
  /-- R131 (c), sending. -/
  n_pos : s.writer.state.sending = true → s.writer.n ≠ 0#4
  /-- R131 (c), otherwise, but for `Reset`. -/
  n_zero : s.writer.state.sending = false → s.writer.state ≠ .reset → s.writer.n = 0#4
  /-- R116, R121: after the last block all `W.n` blocks are counted, until the frame is finished (R128). In `Reset` this is
  what R131 (c) says, `W.n` 0, where no block was sent. -/
  all_sent : s.writer.state.blocksSent = true → s.writer.bidx = s.writer.n
  /-- R131 (d). -/
  bidx_le : s.writer.bidx.toNat ≤ s.writer.n.toNat
  /-- R131 (d). -/
  remaining_eq : s.writer.state.draining = true → s.writer.remaining.toNat = s.mem.src.fill
  /-- R131 (d), sharpened in `EmitBlockBytes`. -/
  remaining_le : s.writer.remaining.toNat ≤ 6 * blocksToFill s
  /-- R131 (e). -/
  armed_imp : s.writer.state.armed = true → s.writer.triggered = true
  /-- R26: the counter has `Q_W` bits. -/
  queued_lt : s.writer.queued < 2 ^ s.params.qw
  /-- R32. -/
  byteIdx_le : s.writer.byteIdx.toNat ≤ 8
  /-- A block is being prepared or emitted only while one is left. -/
  block_left : (s.writer.state = .initBlock ∨ s.writer.state = .fillBlock ∨ s.writer.state = .emitBlockBytes ∨
    s.writer.state = .emitStart1 ∨ s.writer.state = .emitStart2) → s.writer.bidx.toNat < s.writer.n.toNat
  /-- R192: before `W.INIT` no poll is taken. -/
  uninit : s.writer.initialized = false → s.writer.state = .idle ∧ s.writer.busy = false

/-! ## The handler -/

/-- R161: the handler's properties; the last lines are what makes the others inductive. -/
structure HandlerInv (s : State) : Prop where
  /-- R161 (a). -/
  rw_eq : s.handler.rwOpen = s.mem.app.rw
  /-- R161 (a). -/
  closed : (s.handler.state = .idle ∨ s.handler.state = .waitProcessed ∨ s.handler.state = .completeReset) →
    s.handler.rwOpen = false
  /-- R161 (a). -/
  open_iff : (s.handler.state = .waitForBytes ∨ s.handler.state = .getByte ∨ s.handler.state = .handleBlock) →
    (s.handler.rwOpen = true ↔ s.handler.acc = accStarted ∨ s.handler.acc = accPrefinish)
  /-- R161 (b). -/
  no_pend : s.handler.state ≠ .checkFinal → s.handler.state ≠ .processError → s.handler.pend = .none
  /-- R161 (c). -/
  acc_legal : s.handler.state ≠ .checkFinal → s.handler.state ≠ .processError → accLegal s.handler.acc = true
  /-- R161 (d); `H.i <= 7` is its width. -/
  blocks_le : s.handler.blocks.toNat ≤ s.handler.frameN.toNat
  /-- R161 (e). -/
  pending_len : s.handler.rwOpen = true → s.handler.pend = .none →
    s.mem.app.pending.length = 6 * s.handler.blocks.toNat
  /-- A block is collected only while one is missing. -/
  collecting : s.handler.i ≠ 0#3 → s.handler.blocks.toNat < s.handler.frameN.toNat
  /-- The block phase runs only while the accumulator is `STARTED` (R146). -/
  in_block : s.handler.state = .handleBlock → s.handler.acc = accStarted
  /-- `FINISHED` is left at once (R147): no byte is waited for or taken in it. -/
  not_finished : (s.handler.state = .waitForBytes ∨ s.handler.state = .getByte) → s.handler.acc ≠ accFinished
  /-- Between frames nothing has been seen. -/
  idle_acc : s.handler.state = .idle → s.handler.acc = accNone
  /-- At the sample point a legal accumulator without an error tells whether the reversible write is open. -/
  sampled : s.handler.state = .checkFinal → s.handler.pend = .none → accLegal s.handler.acc = true →
    (s.handler.rwOpen = true ↔
      s.handler.acc = accStarted ∨ s.handler.acc = accPrefinish ∨ s.handler.acc = accFinished)
  /-- R150: the error state is entered with an error pending. -/
  error_pends : s.handler.state = .processError → s.handler.pend ≠ .none
  /-- R192: before `H.INIT` no poll is taken. -/
  uninit : s.handler.initialized = false → s.handler.state = .idle

/-- The machine's invariant: parameters in range (R8, R9), buffers in form, both units' properties. -/
structure Inv (s : State) : Prop where
  params_wf : s.params.wf = true
  mem_wf : s.mem.wf s.params = true
  writer : WriterInv s
  handler : HandlerInv s

/-! ## Runs -/

/-- R15 (c): the run is not marked refused at this step. -/
def notRefused (o : Host.Outcome State Fault Refusal) : Prop :=
  match o with
  | .next _ => True
  | .fault _ => False
  | .refused _ => False

end Sys2Proof.Machine
end

