-- ==== Sys2Proof/Certificates/Slice0/Obligations.lean ====
section
/-!
DEFINITION. The statements for the provers. A result statement gives the whole next state, so it is also the instruction's
frame: what it does not name is unchanged. "Free" answers are quantified, never valued.
-/

open Sys2Proof Sys2Proof.Machine

/-! ## Encoding -/

/-- Words written out from R86's table and bytes from R84's, one or more of every family, decode to what they stand for.
The command encoding is the spec's own decision D3. -/
def Obligations.SampleWordsDecode : Prop :=
  decodeCommand 0b0000000100000000#16 = .ok .wInit ∧
  decodeCommand 0b0000001000000000#16 = .ok .wPoll ∧
  decodeCommand 0b0000010001000001#16 = .ok (.wWrite 0x41#8) ∧
  decodeCommand 0b0000101000000000#16 = .ok .wStatus ∧
  decodeCommand 0b0001000100000000#16 = .ok .hInit ∧
  decodeCommand 0b0001001111000001#16 = .ok (.hSubmit 0xC1#8) ∧
  decodeCommand 0b0010000100000000#16 = .ok .eOutget ∧
  decodeCommand 0b0010010000000000#16 = .ok .eClrsendlsn ∧
  decodeWireByte 0b01000001#8 = .wireData 0x41#7 ∧
  decodeWireByte 0b10001010#8 = .wireMask 0b001010#6 ∧
  decodeWireByte 0b11000010#8 = .wireSc1 2#4 ∧
  decodeWireByte 0b11010010#8 = .wireSc2 2#4 ∧
  decodeWireByte 0b11101111#8 = .wireEc1 15#4 ∧
  decodeWireByte 0b11111111#8 = .wireEc2 15#4 ∧
  decodeWire [0xC1#8, 0xD1#8, 0x8A#8, 0x40#8, 0x41#8, 0x7F#8, 0x00#8, 0x00#8, 0x7F#8, 0x01#8, 0xE1#8, 0xF1#8] =
    .ok (.frame 1#4 [⟨0b001010#6, 0x40#8, 0x41#7, 0x7F#7, 0#7, 0#7, 0x7F#7, 1#7⟩])

/-- Decoding what the encoder wrote gives the instruction back, for every well-formed instruction that has an encoding:
the command words, the wire bytes, every block and every frame. -/
def Obligations.DecodeOfEncodeIsTheInstruction : Prop :=
  ∀ i : Instr, i.wf = true → encode i ≠ .internal → decode (encode i) = .ok i

/-- Every encoding has one meaning: bits that decode are exactly what the encoder writes for the instruction they decode
to (no bit of a command word, a wire byte, a block or a frame is dropped), and that instruction is well formed. -/
def Obligations.EncodeOfDecodedBitsIsTheBits : Prop :=
  ∀ (e : Encoding) (i : Instr), decode e = .ok i → encode i = e ∧ i.wf = true

/-- R84's table: which byte values are in which class, and the field each carries. -/
def Obligations.ByteClassesAreTheTables : Prop :=
  ∀ b : Byte,
    (b.toNat ≤ 0x7F → ∃ d : BitVec 7, classify b = .data d ∧ d.toNat = b.toNat) ∧
    (0x80 ≤ b.toNat → b.toNat ≤ 0xBF → ∃ m : BitVec 6, classify b = .mask m ∧ m.toNat = b.toNat - 0x80) ∧
    (0xC0 ≤ b.toNat → b.toNat ≤ 0xCF → ∃ n : BitVec 4, classify b = .sc1 n ∧ n.toNat = b.toNat - 0xC0) ∧
    (0xD0 ≤ b.toNat → b.toNat ≤ 0xDF → ∃ n : BitVec 4, classify b = .sc2 n ∧ n.toNat = b.toNat - 0xD0) ∧
    (0xE0 ≤ b.toNat → b.toNat ≤ 0xEF → ∃ n : BitVec 4, classify b = .ec1 n ∧ n.toNat = b.toNat - 0xE0) ∧
    (0xF0 ≤ b.toNat → ∃ n : BitVec 4, classify b = .ec2 n ∧ n.toNat = b.toNat - 0xF0)

/-- R88: the reserved opcodes. -/
def reservedOp (op : Nat) : Prop :=
  op = 0x00 ∨ (0x0B ≤ op ∧ op ≤ 0x10) ∨ (0x17 ≤ op ∧ op ≤ 0x20) ∨ 0x25 ≤ op

/-- R87, R88 (decision D3): exactly which words the step refuses as no command, and by which name. -/
def Obligations.ReservedWordsAreRefused : Prop :=
  ∀ (s : State) (a : Agent) (rest : List Turn) (w : CommandWord) (ws : List CommandWord),
    s.turns = .command a :: rest → s.queues.of a = w :: ws →
    let op := w.toNat / 256
    let arg := w.toNat % 256
    (reservedOp op → step s = .refused .reservedOpcode) ∧
    (¬ reservedOp op → op ≠ 0x04 → op ≠ 0x13 → arg ≠ 0 → step s = .refused .nonZeroArgument) ∧
    (¬ reservedOp op → (op = 0x04 ∨ op = 0x13 ∨ arg = 0) → ∃ i, decodeCommand w = .ok i)

/-! ## The step -/

/-- The step around an instruction: the agent whose turn it is has its first word decoded and executed; a command that
was held stays with its agent, any other leaves the agent's queue (R15, R183). On the turn `spin` the writer takes its
internal step, an agent with nothing to issue passes, and with no turn nothing steps. (The queues and turns are the
model's own, notes/assumptions/5.) -/
def Obligations.StepRunsTheDecodedCommand : Prop :=
  ∀ s : State,
    (∀ (a : Agent) (rest : List Turn) (w : CommandWord) (ws : List CommandWord) (i : Instr),
      s.turns = .command a :: rest → s.queues.of a = w :: ws → decodeCommand w = .ok i →
      (∀ t, exec i { s with turns := rest } = .next t → t.answer = .held → step s = .next t) ∧
      (∀ t, exec i { s with turns := rest } = .next t → t.answer ≠ .held →
        step s = .next { t with queues := t.queues.set a ((t.queues.of a).drop 1) }) ∧
      (∀ r, exec i { s with turns := rest } = .refused r → step s = .refused r)) ∧
    (∀ rest, s.turns = .spin :: rest → step s = exec .wSpin { s with turns := rest }) ∧
    (∀ a rest, s.turns = .command a :: rest → s.queues.of a = [] → step s = .next { s with turns := rest }) ∧
    (s.turns = [] → step s = .next s)

/-- An instruction touches neither the agents' queues nor the turns nor the parameters: only the step moves the first
two, and nothing moves the last. -/
def Obligations.InstructionsLeaveAgentsAndParameters : Prop :=
  ∀ (i : Instr) (s t : State), exec i s = .next t →
    t.queues = s.queues ∧ t.turns = s.turns ∧ t.params = s.params

/-! ## Power-on and initialization -/

/-- R196: the launch state. (The values of the registers R192 leaves unspecified are the model's, notes/assumptions/1,
and are not stated here.) -/
def Obligations.LaunchStateIsPowerOn : Prop :=
  State.reset.writer.initialized = false ∧ State.reset.handler.initialized = false ∧
  State.reset.writer.regOut = false ∧ State.reset.writer.regLsn = false ∧
  State.reset.handler.regApp = false ∧ State.reset.handler.regLsn = false ∧
  State.reset.mem.src = ⟨[], [], false, false⟩ ∧ State.reset.mem.out = ⟨[], [], false, false⟩ ∧
  State.reset.mem.inb = ⟨[], [], false, false⟩ ∧ State.reset.mem.app = ⟨[], [], false, false⟩ ∧
  State.reset.sendLsn = false ∧ State.reset.appLsn = false

/-- R192: a unit that is not initialized refuses every command of its port but `INIT`. -/
def Obligations.UninitializedUnitsRefuse : Prop :=
  ∀ (s : State) (b : Byte),
    (s.writer.initialized = false → ∀ i ∈ ([.wPoll, .wOpen, .wWrite b, .wClose, .wTrigger, .wQcount, .wRegout,
      .wReglsn, .wStatus] : List Instr), exec i s = .refused .writerNotInitialized) ∧
    (s.handler.initialized = false → ∀ i ∈ ([.hPoll, .hSubmit b, .hRegapp, .hReglsn, .hStatus] : List Instr),
      exec i s = .refused .handlerNotInitialized)

/-- R193: `W.INIT`, which holds while the writer spins; what it does not name (registrations, `W.raw`, `W.enc`, `OUT`,
`SendLsn`) is kept. -/
def Obligations.WInitResetsTheWriter : Prop :=
  ∀ s : State,
    (s.writer.busy = false → exec .wInit s = .next { s with
      writer := { s.writer with
        initialized := true, state := .idle, busy := false, composing := false, queued := 0, triggered := false,
        n := 0#4, remaining := 0#7, bidx := 0#4, byteIdx := 0#4, lastError := .none }
      writerHistory := []
      mem := { s.mem with src := { s.mem.src with contents := [], locked := false } }
      answer := .response .ok 0#32 }) ∧
    (s.writer.busy = true → exec .wInit s = .next { s with answer := .held })

/-- R194: `H.INIT`, never held; an open reversible write is reversed, committed bytes and registrations are kept. -/
def Obligations.HInitResetsTheHandler : Prop :=
  ∀ s : State, exec .hInit s = .next { s with
    handler := { s.handler with
      initialized := true, state := .idle, acc := 0#4, frameN := 0#4, blocks := 0#4, i := 0#3, pend := .none,
      rwOpen := false, lastError := .none }
    handlerHistory := []
    mem := { s.mem with
      app := if s.mem.app.rw then { s.mem.app with pending := [], rw := false } else s.mem.app
      inb := { s.mem.inb with contents := [] } }
    answer := .response .ok 0#32 }

/-! ## Writer port -/

/-- R101 (3) (decision D24): while the writer spins its port holds every command but `W.STATUS` and `W.QCOUNT`, and a
hold changes nothing but the answer. -/
def Obligations.BusyWriterHoldsItsPort : Prop :=
  ∀ (s : State) (b : Byte), s.writer.initialized = true → s.writer.busy = true →
    (∀ i ∈ ([.wInit, .wPoll, .wOpen, .wWrite b, .wClose, .wTrigger, .wRegout, .wReglsn] : List Instr),
      exec i s = .next { s with answer := .held }) ∧
    (∀ i ∈ ([.wQcount, .wStatus] : List Instr), ∃ d,
      exec i s = .next { s with answer := .response .ok d })

/-- R103: `W.OPEN`. -/
def Obligations.WOpenStartsComposing : Prop :=
  ∀ s : State, s.writer.initialized = true → s.writer.busy = false →
    (s.writer.composing = false → exec .wOpen s = .next { s with
      writer := { s.writer with composing := true }, answer := .response .ok 0#32 }) ∧
    (s.writer.composing = true → exec .wOpen s = .next { s with
      writer := { s.writer with lastError := .alreadyOpen }
      writerHistory := s.writerHistory ++ [.alreadyOpen]
      answer := .response .alreadyOpen 0#32 })

/-- R104, with R56 and R64 for what a full or locked `SRC` does: `W.WRITE`. (`SRC` never has a reversible write, R55.) -/
def Obligations.WWriteAppendsOrRejects : Prop :=
  ∀ (s : State) (b : Byte), s.writer.initialized = true → s.writer.busy = false →
    (s.writer.composing = false → exec (.wWrite b) s = .next { s with
      writer := { s.writer with lastError := .notOpen }
      writerHistory := s.writerHistory ++ [.notOpen]
      answer := .response .notOpen 0#32 }) ∧
    (s.writer.composing = true →
      (s.mem.src.locked = true ∨ s.mem.src.contents.length + s.mem.src.pending.length = s.params.srcCap) →
      exec (.wWrite b) s = .next { s with
        writer := { s.writer with lastError := .bufferFull }
        writerHistory := s.writerHistory ++ [.bufferFull]
        answer := .response .bufferFull 0#32 }) ∧
    (s.writer.composing = true → s.mem.src.locked = false → s.mem.src.rw = false →
      s.mem.src.contents.length + s.mem.src.pending.length < s.params.srcCap →
      exec (.wWrite b) s = .next { s with
        mem := { s.mem with src := { s.mem.src with contents := s.mem.src.contents ++ [b] } }
        answer := .response .ok 0#32 })

/-- R105: `W.CLOSE`; the counter saturates (decision D21). -/
def Obligations.WCloseQueuesAndArms : Prop :=
  ∀ s : State, s.writer.initialized = true → s.writer.busy = false →
    (s.writer.composing = true → exec .wClose s = .next { s with
      writer := { s.writer with
        composing := false, queued := min (s.writer.queued + 1) (2 ^ s.params.qw - 1), triggered := true }
      answer := .response .ok 0#32 }) ∧
    (s.writer.composing = false → exec .wClose s = .next { s with
      writer := { s.writer with lastError := .notOpen }
      writerHistory := s.writerHistory ++ [.notOpen]
      answer := .response .notOpen 0#32 })

/-- R106: `W.TRIGGER`. -/
def Obligations.WTriggerArmsOnce : Prop :=
  ∀ s : State, s.writer.initialized = true → s.writer.busy = false →
    (s.writer.triggered = false → exec .wTrigger s = .next { s with
      writer := { s.writer with triggered := true }, answer := .response .ok 0#32 }) ∧
    (s.writer.triggered = true → exec .wTrigger s = .next { s with
      writer := { s.writer with lastError := .alreadyTriggered }
      writerHistory := s.writerHistory ++ [.alreadyTriggered]
      answer := .response .alreadyTriggered 0#32 })

/-- R107: `W.QCOUNT` observes the counter and changes nothing. A counter value of more than 32 bits has no stated answer;
the command then answers `OK` with some word (notes/assumptions/4). -/
def Obligations.WQcountObservesTheCounter : Prop :=
  ∀ s : State, s.writer.initialized = true →
    (∃ d, exec .wQcount s = .next { s with answer := .response .ok d } ∧
      (s.writer.queued < 2 ^ 32 → d.toNat = s.writer.queued))

/-- R110, R50: `W.STATUS` answers the status word, field by field, and changes nothing. -/
def Obligations.WStatusAnswersTheFields : Prop :=
  ∀ s : State, s.writer.initialized = true →
    ∃ d : DataWord, exec .wStatus s = .next { s with answer := .response .ok d } ∧
      d.extractLsb' 0 4 = s.writer.state.code ∧ d.getLsbD 4 = s.writer.composing ∧
      d.getLsbD 5 = s.writer.triggered ∧ d.getLsbD 6 = s.writer.busy ∧ d.getLsbD 7 = s.mem.src.locked ∧
      d.extractLsb' 8 3 = s.writer.lastError.code ∧ d.getLsbD 11 = false ∧ d.extractLsb' 12 4 = s.writer.n ∧
      d.extractLsb' 16 4 = s.writer.bidx ∧ d.extractLsb' 20 4 = s.writer.byteIdx ∧ d.extractLsb' 24 8 = 0#8

/-- R108, R109 (decision D29): the writer's registrations, refused outside `Idle`. -/
def Obligations.WriterRegistersInIdleOnly : Prop :=
  ∀ s : State, s.writer.initialized = true → s.writer.busy = false →
    (s.writer.state = .idle →
      exec .wRegout s = .next { s with
        writer := { s.writer with regOut := true }, answer := .response .ok 0#32 } ∧
      exec .wReglsn s = .next { s with
        writer := { s.writer with regLsn := true }, answer := .response .ok 0#32 }) ∧
    (s.writer.state ≠ .idle →
      exec .wRegout s = .refused .writerNotIdle ∧ exec .wReglsn s = .refused .writerNotIdle)

/-! ## Writer poll -/

/-- R113, R114, R115: the polls before the payload is looked at. (In `LockBuffer` the writer does not hold the lock yet,
R62; that it goes on with `SRC` already locked, which no run reaches, is notes/assumptions/11, DEDUCED.) -/
def Obligations.WPollWaitsThenLocks : Prop :=
  ∀ s : State, s.writer.initialized = true → s.writer.busy = false →
    (s.writer.state = .idle →
      exec .wPoll s = .next { s with
        writer := { s.writer with
          state := if s.writer.regOut && s.writer.regLsn then .waitForTrigger else .idle }
        answer := .response .ok 0#32 }) ∧
    (s.writer.state = .waitForTrigger →
      exec .wPoll s = .next { s with
        writer := { s.writer with state := if s.writer.triggered then .lockBuffer else .waitForTrigger }
        answer := .response .ok 0#32 }) ∧
    (s.writer.state = .lockBuffer →
      exec .wPoll s = .next { s with
        writer := { s.writer with state := .computeBlockCount }
        mem := { s.mem with src := { s.mem.src with locked := true } }
        answer := .response .ok 0#32 })

/-- R116: `n = ceil(f / 6)`; above 15 the payload is discarded and `PayloadTooLarge` raised (decision D20), an empty
source sends nothing (decision D19). -/
def Obligations.WPollComputesTheBlockCount : Prop :=
  ∀ s : State, s.writer.initialized = true → s.writer.busy = false → s.writer.state = .computeBlockCount →
    let f := s.mem.src.contents.length
    (90 < f → exec .wPoll s = .next { s with
      writer := { s.writer with lastError := .payloadTooLarge, state := .processError }
      writerHistory := s.writerHistory ++ [.payloadTooLarge]
      mem := { s.mem with src := { s.mem.src with contents := [] } }
      answer := .response .ok 0#32 }) ∧
    (f = 0 → exec .wPoll s = .next { s with
      writer := { s.writer with state := .reset }
      mem := { s.mem with src := { s.mem.src with locked := false } }
      answer := .response .ok 0#32 }) ∧
    (0 < f → f ≤ 90 → ∃ (n : BitVec 4) (r : BitVec 7),
      n.toNat * 6 < f + 6 ∧ f ≤ n.toNat * 6 ∧ r.toNat = f ∧
      exec .wPoll s = .next { s with
        writer := { s.writer with n := n, remaining := r, bidx := 0#4, state := .emitStart1 }
        answer := .response .ok 0#32 })

/-- The four states that put a control byte: the state, the byte's code bits, the state after. -/
def controlStates : List (WState × Byte × WState) :=
  [(.emitStart1, 0xC0#8, .emitStart2), (.emitStart2, 0xD0#8, .initBlock),
    (.emitEnd1, 0xE0#8, .emitEnd2), (.emitEnd2, 0xF0#8, .signalListener)]

/-- R117, R118, R124, R125: the control byte is put if `OUT` takes it; a full `OUT` leaves everything for the next poll. -/
def Obligations.WPollEmitsControlBytes : Prop :=
  ∀ s : State, s.writer.initialized = true → s.writer.busy = false →
    ∀ x ∈ controlStates, s.writer.state = x.1 →
      (s.mem.out.contents.length + s.mem.out.pending.length = s.params.outCap →
        exec .wPoll s = .next { s with answer := .response .ok 0#32 }) ∧
      (s.mem.out.contents.length + s.mem.out.pending.length < s.params.outCap → s.mem.out.locked = false →
        s.mem.out.rw = false →
        exec .wPoll s = .next { s with
          writer := { s.writer with state := x.2.2 }
          mem := { s.mem with out := { s.mem.out with
            contents := s.mem.out.contents ++ [x.2.1 ||| s.writer.n.setWidth 8] } }
          answer := .response .ok 0#32 })

/-- R119, R120: a block is prepared, then filled with up to six bytes of the source, padded and encoded. (With
`W.remaining` 0, which R120 infers no run reaches, the block of no byte is notes/assumptions/10, DESIGN CHOICE.) -/
def Obligations.WPollFillsABlock : Prop :=
  ∀ s : State, s.writer.initialized = true → s.writer.busy = false →
    (s.writer.state = .initBlock → exec .wPoll s = .next { s with
      writer := { s.writer with byteIdx := 0#4, state := .fillBlock }, answer := .response .ok 0#32 }) ∧
    (s.writer.state = .fillBlock → s.writer.remaining.toNat ≤ s.mem.src.contents.length →
      ∃ (r : Raw6) (left : BitVec 7),
        let k := min 6 s.writer.remaining.toNat
        [r.b0, r.b1, r.b2, r.b3, r.b4, r.b5] = s.mem.src.contents.take k ++ List.replicate (6 - k) 0xFF#8 ∧
        left.toNat = s.writer.remaining.toNat - k ∧
        exec .wPoll s = .next { s with
          writer := { s.writer with
            remaining := left, raw := r, enc := encodeBlock s.params.checksumId (s.mem.src.contents.take k),
            byteIdx := 0#4,
            state := .emitBlockBytes }
          mem := { s.mem with src := { s.mem.src with contents := s.mem.src.contents.drop k } }
          answer := .response .ok 0#32 })

/-- What `W_EMIT` of R121 does to a state: the bytes of `W.enc` from `W.byteIdx` on that fit into `OUT` are put, in order;
if all did the block is done, otherwise the writer is busy. -/
def emitted (s : State) : State :=
  let rest := s.writer.enc.toList.drop s.writer.byteIdx.toNat
  let room := s.params.outCap - s.mem.out.contents.length
  let done := decide (rest.length ≤ room)
  { s with
    writer := { s.writer with
      byteIdx := s.writer.byteIdx + BitVec.ofNat 4 (min rest.length room)
      busy := !done
      bidx := if done then s.writer.bidx + 1#4 else s.writer.bidx
      state := if done then (if s.writer.bidx + 1#4 < s.writer.n then .initBlock else .unlockBuffer)
        else s.writer.state }
    mem := { s.mem with out := { s.mem.out with contents := s.mem.out.contents ++ rest.take room } } }

/-- R121, R122: `W.POLL` in `EmitBlockBytes` and `W.SPIN` both do `W_EMIT`; the premises on `OUT` are those of R55 for a
buffer that is neither locked nor has a reversible write. `W.SPIN` is enabled exactly while the writer is busy. That the
split poll itself answers `OK` is the model's choice (notes/assumptions/6). -/
def Obligations.WPollAndWSpinEmitTheBlock : Prop :=
  ∀ s : State, s.mem.out.locked = false → s.mem.out.rw = false → s.mem.out.pending = [] →
    s.mem.out.contents.length ≤ s.params.outCap →
    (s.writer.initialized = true → s.writer.busy = false → s.writer.state = .emitBlockBytes →
      exec .wPoll s = .next { emitted s with answer := .response .ok 0#32 }) ∧
    (s.writer.busy = true → exec .wSpin s = .next (emitted s)) ∧
    (s.writer.busy = false → exec .wSpin s = .next { s with answer := .held })

/-- R123, R126, R127: unlocking, signalling, and waiting for the send listener flag to clear (decision D26); R128, R129,
R130: finishing the frame, from `Reset` and from `ProcessError` (decision D21). -/
def Obligations.WPollEndsTheFrame : Prop :=
  ∀ s : State, s.writer.initialized = true → s.writer.busy = false →
    let finished : Writer := { s.writer with
      queued := s.writer.queued - 1, triggered := decide (1 < s.writer.queued), n := 0#4, bidx := 0#4,
      remaining := 0#7, byteIdx := 0#4, state := .idle }
    (s.writer.state = .unlockBuffer → exec .wPoll s = .next { s with
      writer := { s.writer with state := .emitEnd1 }
      mem := { s.mem with src := { s.mem.src with locked := false } }
      answer := .response .ok 0#32 }) ∧
    (s.writer.state = .signalListener → exec .wPoll s = .next { s with
      writer := { s.writer with state := .waitAck }, sendLsn := true, answer := .response .ok 0#32 }) ∧
    (s.writer.state = .waitAck → exec .wPoll s = .next { s with
      writer := { s.writer with state := if s.sendLsn then .waitAck else .reset }
      answer := .response .ok 0#32 }) ∧
    (s.writer.state = .reset → exec .wPoll s = .next { s with
      writer := finished, answer := .response .ok 0#32 }) ∧
    (s.writer.state = .processError → exec .wPoll s = .next { s with
      writer := finished
      mem := { s.mem with src := { s.mem.src with locked := false } }
      answer := .response .ok 0#32 })

/-- `BLOCK` (R81, R121): where the writer stands before this block and `OUT` has room for it, the block's eight bytes go
out, mask first; the writer's poll there is this instruction, answering `OK` (reading of the row: notes/assumptions/7). -/
def Obligations.BlockIsWhatTheWriterEmits : Prop :=
  ∀ (s : State) (b : WireBlock), s.writer.initialized = true → atBlock b s →
    exec .wPoll s = (match exec (.block b) s with
      | .next t => .next { t with answer := .response .ok 0#32 }
      | o => o) ∧
    (s.mem.out.locked = false → s.mem.out.rw = false →
      s.mem.out.contents.length + s.mem.out.pending.length + 8 ≤ s.params.outCap →
      exec (.block b) s = .next { s with
        writer := { s.writer with
          byteIdx := 8#4, bidx := s.writer.bidx + 1#4
          state := if s.writer.bidx + 1#4 < s.writer.n then .initBlock else .unlockBuffer }
        mem := { s.mem with out := { s.mem.out with contents := s.mem.out.contents ++
          [0x80#8 ||| b.m.setWidth 8, b.c, b.d0.setWidth 8, b.d1.setWidth 8, b.d2.setWidth 8, b.d3.setWidth 8,
            b.d4.setWidth 8, b.d5.setWidth 8] } } })

/-- The premises under which the frame `n blocks` is sent whole: the writer stands before it and `OUT` has its `4 + 8n`
places (R80). -/
structure FrameReady (s : State) (n : BitVec 4) (blocks : List WireBlock) : Prop where
  initialized : s.writer.initialized = true
  ready : atFrame n blocks s
  unlocked : s.mem.out.locked = false
  plain : s.mem.out.rw = false
  room : s.mem.out.contents.length + s.mem.out.pending.length + (4 + 8 * n.toNat) ≤ s.params.outCap

/-- `FRAME` (R79, R132): the frame's bytes go out, `0xC0|n 0xD0|n blocks 0xE0|n 0xF0|n`, and nothing else; the source
gives up the frame's payload (all it holds where `W.remaining` is its fill level, R131 (d)) and is unlocked; the writer
stands in `SignalListener` with its last block, the bytes from `6(n-1)` on, in `W.raw` and `W.enc`. Nothing else changes
(reading of the row: notes/assumptions/7; the block of a slice with no byte or of a source shorter than `W.remaining`,
which no run reaches: notes/assumptions/10, DESIGN CHOICE). -/
def Obligations.FrameIsEmittedWhole : Prop :=
  ∀ (s : State) (n : BitVec 4) (blocks : List WireBlock), FrameReady s n blocks →
    let last := ((s.mem.src.contents.take s.writer.remaining.toNat).drop (6 * (n.toNat - 1))).take 6
    ∃ left : BitVec 7, left.toNat = s.writer.remaining.toNat - 6 * n.toNat ∧
      exec (.frame n blocks) s = .next { s with
        writer := { s.writer with
          state := .signalListener, bidx := n, byteIdx := 8#4, remaining := left, raw := pad6 last
          enc := encodeBlock s.params.checksumId last }
        mem := { s.mem with
          src := { s.mem.src with
            contents := s.mem.src.contents.drop (min (6 * n.toNat) s.writer.remaining.toNat), locked := false }
          out := { s.mem.out with contents := s.mem.out.contents ++
            ([0xC0#8 ||| n.setWidth 8, 0xD0#8 ||| n.setWidth 8] ++
              blocks.flatMap (fun b => [0x80#8 ||| b.m.setWidth 8, b.c, b.d0.setWidth 8, b.d1.setWidth 8,
                b.d2.setWidth 8, b.d3.setWidth 8, b.d4.setWidth 8, b.d5.setWidth 8]) ++
              [0xE0#8 ||| n.setWidth 8, 0xF0#8 ||| n.setWidth 8]) } } }

/-- The polls that send a frame, `5 + 3n` of them from `EmitStart1` to `SignalListener`, do exactly what `FRAME` says,
down to every register (R112, R132, R135; notes/assumptions/7, and notes/assumptions/10 for a slice with no byte or a
source shorter than `W.remaining`, which no run reaches). -/
def Obligations.PollsSendExactlyTheFrame : Prop :=
  ∀ (s : State) (n : BitVec 4) (blocks : List WireBlock), FrameReady s n blocks →
    s.answer = .response .ok 0#32 →
    writerPolls (5 + 3 * n.toNat) s = exec (.frame n blocks) s

/-- R132, R135 (the spec's own inferences): from `Idle`, registered and triggered, with a payload of 1 to 90 bytes in `SRC`
and room in `OUT`, `10 + 3n` polls put exactly the frame of the payload's blocks into `OUT`, drain and unlock `SRC`, and
raise `SendLsn`; no error is recorded and the handler's side stays. (`LockBuffer` on a `SRC` already locked, which no run
reaches: notes/assumptions/11, DEDUCED.) -/
def Obligations.WriterSendsThePayload : Prop :=
  ∀ s : State,
    s.writer.initialized = true → s.writer.busy = false → s.writer.state = .idle → s.writer.regOut = true →
    s.writer.regLsn = true → s.writer.triggered = true → s.mem.out.locked = false → s.mem.out.rw = false →
    let p := s.mem.src.contents
    let n := (p.length + 5) / 6
    1 ≤ p.length → p.length ≤ 90 →
    s.mem.out.contents.length + s.mem.out.pending.length + (4 + 8 * n) ≤ s.params.outCap →
    ∃ t, writerPolls (10 + 3 * n) s = .next t ∧ t.writer.state = .waitAck ∧ t.sendLsn = true ∧
      t.mem.out = { s.mem.out with
        contents := s.mem.out.contents ++
          frameBytes (BitVec.ofNat 4 n) (payloadBlocks s.params.checksumId n p) } ∧
      t.mem.src = { s.mem.src with contents := [], locked := false } ∧
      t.writer.n.toNat = n ∧ t.writer.bidx.toNat = n ∧ t.writer.queued = s.writer.queued ∧
      t.writer.triggered = true ∧ t.writer.composing = s.writer.composing ∧
      t.writer.lastError = s.writer.lastError ∧ t.writerHistory = s.writerHistory ∧ t.handler = s.handler ∧
      t.mem.inb = s.mem.inb ∧ t.mem.app = s.mem.app ∧ t.appLsn = s.appLsn ∧ t.handlerHistory = s.handlerHistory

/-- R132, second half, and R133: a snapshot of length 0 or above 90 puts no byte: five polls from `Idle` bring the
writer back to `Idle` with `OUT` and `SendLsn` as they were, the source empty and unlocked, one frame counted down.
(`LockBuffer` on a `SRC` already locked, which no run reaches: notes/assumptions/11, DEDUCED.) -/
def Obligations.EmptyOrOversizedPayloadSendsNothing : Prop :=
  ∀ s : State,
    s.writer.initialized = true → s.writer.busy = false → s.writer.state = .idle → s.writer.regOut = true →
    s.writer.regLsn = true → s.writer.triggered = true →
    let f := s.mem.src.contents.length
    (f = 0 ∨ 90 < f) →
    ∃ t, writerPolls 5 s = .next t ∧ t.writer.state = .idle ∧ t.mem.out = s.mem.out ∧ t.sendLsn = s.sendLsn ∧
      t.mem.src = { s.mem.src with contents := [], locked := false } ∧ t.writer.queued = s.writer.queued - 1 ∧
      t.writer.triggered = decide (1 < s.writer.queued) ∧
      t.writerHistory = s.writerHistory ++ (if f = 0 then [] else [.payloadTooLarge]) ∧
      (90 < f → t.writer.lastError = .payloadTooLarge)

/-! ## Block codec -/

/-- Byte `j` of a raw block. -/
def rawByte (r : Raw6) (j : Fin 6) : Byte := (rawList r).getD j 0#8

/-- Data byte `j` of a block. -/
def blockByte (b : Blk8) (j : Fin 6) : Byte := ([b.d0, b.d1, b.d2, b.d3, b.d4, b.d5] : List Byte).getD j 0#8

/-- R94, R96: `ENCODE` answers the block of the padded bytes: each lane's byte without its high bit, the high bits in the
mask over `0x80`, the checksum of the six masked bytes. An operand of no or more than six bytes, which R94 does not give a
result, is refused (the model's stop, notes/assumptions/10). -/
def Obligations.EncodeMasksAndChecksums : Prop :=
  ∀ (s : State) (raw : List Byte),
    (1 ≤ raw.length → raw.length ≤ 6 →
      ∃ b : Blk8, exec (.codecEncode raw) s = .next { s with answer := .encoded b } ∧
        (∀ j : Fin 6, blockByte b j = (raw.getD j 0xFF#8) &&& 0x7F#8) ∧
        (∀ j : Fin 6, b.mask.getLsbD j = (raw.getD j 0xFF#8).getLsbD 7) ∧
        b.mask.getLsbD 6 = false ∧ b.mask.getLsbD 7 = true ∧
        b.checksum = Config.checksum s.params.checksumId ⟨b.d0, b.d1, b.d2, b.d3, b.d4, b.d5⟩) ∧
    ((raw.length = 0 ∨ 6 < raw.length) → exec (.codecEncode raw) s = .refused .operandOutOfRange)

/-- R97: `DECODE` answers `ChecksumMismatch` if the recomputed checksum differs, otherwise each data byte with `0x80` ORed
back where its mask bit is set. -/
def Obligations.DecodeChecksAndDemasks : Prop :=
  ∀ (s : State) (b : Blk8),
    let c := Config.checksum s.params.checksumId ⟨b.d0, b.d1, b.d2, b.d3, b.d4, b.d5⟩
    (c ≠ b.checksum → exec (.codecDecode b) s = .next { s with answer := .checksumMismatch }) ∧
    (c = b.checksum → ∃ r : Raw6, exec (.codecDecode b) s = .next { s with answer := .decoded r } ∧
      ∀ j : Fin 6, rawByte r j = blockByte b j ||| (if b.mask.getLsbD j then 0x80#8 else 0x00#8))

/-- R98: decoding an encoded payload chunk gives it back, padded with `0xFF` to six bytes, whatever
the instance's `CHECKSUM`. -/
def Obligations.CodecRoundTrip : Prop :=
  ∀ (k : Nat) (raw : List Byte), 1 ≤ raw.length → raw.length ≤ 6 →
    (decodeBlock k (encodeBlock k raw)).map rawList = some (raw ++ List.replicate (6 - raw.length) 0xFF#8)

/-- R95: the bytes of an encoded block are of the classes the handler expects; the checksum byte under `CS7`. -/
def Obligations.EncodedBlockHasItsClasses : Prop :=
  ∀ (k : Nat) (raw : List Byte), 1 ≤ raw.length → raw.length ≤ 6 →
    (∃ m : BitVec 6, classify (encodeBlock k raw).mask = .mask m) ∧
    (∀ j : Fin 6, ∃ d : BitVec 7, classify (blockByte (encodeBlock k raw) j) = .data d) ∧
    (CS7 k → ∃ d : BitVec 7, classify (encodeBlock k raw).checksum = .data d)

/-- R100: a changed mask bit 0..5 is not detected: the block still decodes, with bit 7 of that byte inverted and every
other byte as before. -/
def Obligations.MaskCorruptionIsUndetected : Prop :=
  ∀ (k : Nat) (b : Blk8) (r : Raw6) (j : Fin 6), decodeBlock k b = some r →
    ∃ r', decodeBlock k { b with mask := b.mask ^^^ (1#8 <<< j.val) } = some r' ∧
      (∀ l : Fin 6, l ≠ j → rawByte r' l = rawByte r l) ∧
      (blockByte b j ≤ 0x7F#8 → rawByte r' j = rawByte r j ^^^ 0x80#8)

/-- R163, the flips a decoder can see: of a block that decodes, any change of the checksum byte gives
`ChecksumMismatch`, and under `CS_SBE` so does a flip of one of bits 6..0 of one data byte (of a 7-bit-clean block). -/
def Obligations.SingleBitFlipsAreDetected : Prop :=
  ∀ (k : Nat) (b : Blk8) (r : Raw6), decodeBlock k b = some r →
    (∀ c : Byte, c ≠ b.checksum → decodeBlock k { b with checksum := c } = none) ∧
    (CSSBE k → (∀ j : Fin 6, blockByte b j ≤ 0x7F#8) →
      ∀ (e : Raw6), (dataBytes b).differInOneBit e → (∀ j : Fin 6, rawByte e j ≤ 0x7F#8) →
        decodeBlock k { b with d0 := e.b0, d1 := e.b1, d2 := e.b2, d3 := e.b3, d4 := e.b4, d5 := e.b5 } = none)

/-! ## Handler port -/

/-- R137: `H.SUBMIT`; a full `IN` loses the byte, answers `BufferFull` and records `InboundWriteFailed` (decision D18). -/
def Obligations.HSubmitPutsOrLosesTheByte : Prop :=
  ∀ (s : State) (b : Byte), s.handler.initialized = true →
    (s.mem.inb.contents.length + s.mem.inb.pending.length = s.params.inCap →
      exec (.hSubmit b) s = .next { s with
        handler := { s.handler with lastError := .inboundWriteFailed }
        handlerHistory := s.handlerHistory ++ [.inboundWriteFailed]
        answer := .response .bufferFull 0#32 }) ∧
    (s.mem.inb.contents.length + s.mem.inb.pending.length < s.params.inCap → s.mem.inb.locked = false →
      s.mem.inb.rw = false →
      exec (.hSubmit b) s = .next { s with
        mem := { s.mem with inb := { s.mem.inb with contents := s.mem.inb.contents ++ [b] } }
        answer := .response .ok 0#32 })

/-- R138, R139 (decision D29): the handler's registrations, refused outside `Idle`. -/
def Obligations.HandlerRegistersInIdleOnly : Prop :=
  ∀ s : State, s.handler.initialized = true →
    (s.handler.state = .idle →
      exec .hRegapp s = .next { s with
        handler := { s.handler with regApp := true }, answer := .response .ok 0#32 } ∧
      exec .hReglsn s = .next { s with
        handler := { s.handler with regLsn := true }, answer := .response .ok 0#32 }) ∧
    (s.handler.state ≠ .idle →
      exec .hRegapp s = .refused .handlerNotIdle ∧ exec .hReglsn s = .refused .handlerNotIdle)

/-- R140, R51: `H.STATUS` answers the status word, field by field, and changes nothing. -/
def Obligations.HStatusAnswersTheFields : Prop :=
  ∀ s : State, s.handler.initialized = true →
    ∃ d : DataWord, exec .hStatus s = .next { s with answer := .response .ok d } ∧
      d.extractLsb' 0 3 = s.handler.state.code ∧ d.getLsbD 3 = s.handler.rwOpen ∧
      d.extractLsb' 4 4 = s.handler.acc ∧ d.extractLsb' 8 4 = s.handler.lastError.code ∧
      d.extractLsb' 12 4 = s.handler.blocks ∧ d.extractLsb' 16 4 = s.handler.frameN ∧
      d.extractLsb' 20 3 = s.handler.i ∧ d.getLsbD 23 = false ∧ d.extractLsb' 24 4 = s.handler.pend.code ∧
      d.extractLsb' 28 4 = 0#4

/-- R23, R36, R89, R172, R173: the numeric codes (the spec's decisions D4 to D6). -/
def Obligations.CodesAreTheTables : Prop :=
  ([.none, .alreadyOpen, .notOpen, .alreadyTriggered, .payloadTooLarge, .bufferFull] : List WriterError).map
    (fun e => e.code.toNat) = [0, 1, 2, 3, 4, 5] ∧
  ([.none, .listenerNotRegistered, .inboundWriteFailed, .outboundWriteFailed, .blockIndexOutOfBounds,
    .excessiveStuffing, .start1WithoutStart2, .reentrantBlock, .unexpectedControlByte, .checksumMismatch,
    .markerOutOfPositionSequence, .markerAccumulatorInvalid] : List HandlerError).map
    (fun e => e.code.toNat) = [0, 1, 2, 3, 4, 5, 6, 7, 8, 9, 10, 11] ∧
  ([.ok, .alreadyOpen, .notOpen, .alreadyTriggered, .bufferFull] : List ResponseCode).map
    (fun c => c.code.toNat) = [0, 1, 2, 3, 5] ∧
  ([.idle, .waitForTrigger, .lockBuffer, .computeBlockCount, .emitStart1, .emitStart2, .initBlock, .fillBlock,
    .emitBlockBytes, .unlockBuffer, .emitEnd1, .emitEnd2, .signalListener, .waitAck, .reset, .processError] :
    List WState).map (fun q => q.code.toNat) = [0, 1, 2, 3, 4, 5, 6, 7, 8, 9, 10, 11, 12, 13, 14, 15] ∧
  ([.idle, .waitForBytes, .getByte, .handleBlock, .checkFinal, .waitProcessed, .completeReset, .processError] :
    List HState).map (fun q => q.code.toNat) = [0, 1, 2, 3, 4, 5, 6, 7]

/-! ## Handler poll -/

/-- R143: a poll in `Idle`: a registered handler waits for bytes, an unregistered one raises `ListenerNotRegistered` and
stays (decision D17). -/
def Obligations.HPollLeavesIdleWhenRegistered : Prop :=
  ∀ s : State, s.handler.initialized = true → s.handler.state = .idle →
    (s.handler.regApp = true → s.handler.regLsn = true →
      exec .hPoll s = .next { s with
        handler := { s.handler with state := .waitForBytes }, answer := .response .ok 0#32 }) ∧
    ((s.handler.regApp = false ∨ s.handler.regLsn = false) →
      exec .hPoll s = .next { s with
        handler := { s.handler with lastError := .listenerNotRegistered }
        handlerHistory := s.handlerHistory ++ [.listenerNotRegistered]
        answer := .response .ok 0#32 })

/-- R144, R148, R149: the polls in the two waiting states, and in `CompleteReset`. -/
def Obligations.HPollWaitsAndResets : Prop :=
  ∀ s : State, s.handler.initialized = true →
    (s.handler.state = .waitForBytes →
      exec .hPoll s = .next { s with
        handler := { s.handler with state := if s.mem.inb.contents = [] then .waitForBytes else .getByte }
        answer := .response .ok 0#32 }) ∧
    (s.handler.state = .waitProcessed →
      exec .hPoll s = .next { s with
        handler := { s.handler with state := if s.appLsn then .waitProcessed else .completeReset }
        answer := .response .ok 0#32 }) ∧
    (s.handler.state = .completeReset →
      exec .hPoll s = .next { s with
        handler := { s.handler with
          acc := 0#4, frameN := 0#4, blocks := 0#4, i := 0#3, pend := .none, state := .idle }
        answer := .response .ok 0#32 })

/-- R84, R145, R146: a handler poll that has a byte to treat runs that byte's table row: in `GetByte` the row of the byte
at the front of `IN`, in `HandleBlock` the row of `H.cur` (a payload byte there). In `GetByte` with `IN` empty, which no run
reaches (R145's own inference), a poll changes nothing. -/
def Obligations.HPollRunsTheWireByte : Prop :=
  ∀ s : State, s.handler.initialized = true →
    (∀ b : Byte,
      ((s.handler.state = .getByte ∧ s.mem.inb.contents.head? = some b) ∨
        (s.handler.state = .handleBlock ∧ s.handler.cur = b ∧ b.toNat < 0xC0)) →
      exec .hPoll s = (match exec (decodeWireByte b) s with
        | .next t => .next { t with answer := .response .ok 0#32 }
        | o => o)) ∧
    (s.handler.state = .getByte → s.mem.inb.contents = [] →
      exec .hPoll s = .next { s with answer := .response .ok 0#32 })

/-- R145: a payload byte taken by `GetByte`: to the block phase while the accumulator is `STARTED`, an error otherwise
(decision D11, for `PRESTART`, `NONE` and `PREFINISH`). That the same holds of `FINISHED` and of illegal values, in which no
run takes a byte, is R145's pseudocode taken literally (notes/assumptions/11, DEDUCED). -/
def Obligations.PayloadByteIsRouted : Prop :=
  ∀ (s : State) (i : Instr) (b : Byte) (rest : List Byte),
    ((∃ d : BitVec 7, i = .wireData d ∧ b.toNat = d.toNat) ∨
      (∃ m : BitVec 6, i = .wireMask m ∧ b.toNat = 0x80 + m.toNat)) →
    s.handler.initialized = true → s.handler.state = .getByte → s.mem.inb.contents = b :: rest →
    let taken : Memory := { s.mem with inb := { s.mem.inb with contents := rest } }
    (s.handler.acc = 3#4 → exec i s = .next { s with
      mem := taken, handler := { s.handler with cur := b, state := .handleBlock } }) ∧
    (s.handler.acc = 1#4 → exec i s = .next { s with
      mem := taken, handler := { s.handler with pend := .start1WithoutStart2, state := .checkFinal } }) ∧
    (s.handler.acc ≠ 3#4 → s.handler.acc ≠ 1#4 → exec i s = .next { s with
      mem := taken, handler := { s.handler with pend := .unexpectedControlByte, state := .checkFinal } })

/-- R153, R154: the start codes in their place: `SC1` from `NONE`, `SC2` from `PRESTART`; a zero or different count is
`UnexpectedControlByte` (decision D8), and only an accepted `SC2` opens the reversible write. (R59 has the precondition that
none is open on `APP`; that one already open, which no run reaches, is opened anew is notes/assumptions/11, DEDUCED.) -/
def Obligations.StartCodesAreAccepted : Prop :=
  ∀ (s : State) (c : BitVec 4) (b : Byte) (rest : List Byte),
    s.handler.initialized = true → s.handler.state = .getByte → s.mem.inb.contents = b :: rest →
    let taken : Memory := { s.mem with inb := { s.mem.inb with contents := rest } }
    (b.toNat = 0xC0 + c.toNat → s.handler.acc = 0#4 →
      (c = 0#4 → exec (.wireSc1 c) s = .next { s with
        mem := taken
        handler := { s.handler with acc := 1#4, pend := .unexpectedControlByte, state := .checkFinal } }) ∧
      (c ≠ 0#4 → exec (.wireSc1 c) s = .next { s with
        mem := taken
        handler := { s.handler with acc := 1#4, frameN := c, blocks := 0#4, i := 0#3, state := .checkFinal } })) ∧
    (b.toNat = 0xD0 + c.toNat → s.handler.acc = 1#4 →
      (c ≠ s.handler.frameN → exec (.wireSc2 c) s = .next { s with
        mem := taken
        handler := { s.handler with acc := 3#4, pend := .unexpectedControlByte, state := .checkFinal } }) ∧
      (c = s.handler.frameN → exec (.wireSc2 c) s = .next { s with
        mem := { taken with app := { s.mem.app with rw := true, pending := [] } }
        handler := { s.handler with
          acc := 3#4, rwOpen := true, blocks := 0#4, i := 0#3, state := .checkFinal } }))

/-- R155, R156: the end codes in their place: `EC1` from `STARTED`, `EC2` from `PREFINISH`; the count is checked first
(decision D8), then, for `EC1`, the number of blocks (decision D13). -/
def Obligations.EndCodesAreAccepted : Prop :=
  ∀ (s : State) (c : BitVec 4) (b : Byte) (rest : List Byte),
    s.handler.initialized = true → s.handler.state = .getByte → s.mem.inb.contents = b :: rest →
    let taken : Memory := { s.mem with inb := { s.mem.inb with contents := rest } }
    (b.toNat = 0xE0 + c.toNat → s.handler.acc = 3#4 →
      (c ≠ s.handler.frameN → exec (.wireEc1 c) s = .next { s with
        mem := taken
        handler := { s.handler with acc := 7#4, pend := .unexpectedControlByte, state := .checkFinal } }) ∧
      (c = s.handler.frameN → (s.handler.blocks ≠ s.handler.frameN ∨ s.handler.i ≠ 0#3) →
        exec (.wireEc1 c) s = .next { s with
          mem := taken
          handler := { s.handler with acc := 7#4, pend := .blockIndexOutOfBounds, state := .checkFinal } }) ∧
      (c = s.handler.frameN → s.handler.blocks = s.handler.frameN → s.handler.i = 0#3 →
        exec (.wireEc1 c) s = .next { s with
          mem := taken, handler := { s.handler with acc := 7#4, state := .checkFinal } })) ∧
    (b.toNat = 0xF0 + c.toNat → s.handler.acc = 7#4 →
      (c ≠ s.handler.frameN → exec (.wireEc2 c) s = .next { s with
        mem := taken
        handler := { s.handler with acc := 15#4, pend := .unexpectedControlByte, state := .checkFinal } }) ∧
      (c = s.handler.frameN → exec (.wireEc2 c) s = .next { s with
        mem := taken, handler := { s.handler with acc := 15#4, state := .checkFinal } }))

/-- The four control codes: accumulator bit `k`, the byte with count `c`, the table row. -/
def controlRow (k : Fin 4) (c : BitVec 4) : Instr :=
  match k with
  | 0 => .wireSc1 c
  | 1 => .wireSc2 c
  | 2 => .wireEc1 c
  | 3 => .wireEc2 c

/-- R151, R152: control codes out of their place, for every legal accumulator. A code out of order only ORs its bit into
the accumulator (which `CheckFinal` then finds illegal); a code already seen leaves it and is an error by R152's table
(decisions D9, D10). -/
def Obligations.ControlCodesOutOfPlace : Prop :=
  ∀ (s : State) (k : Fin 4) (c : BitVec 4) (b : Byte) (rest : List Byte),
    s.handler.initialized = true → s.handler.state = .getByte → s.mem.inb.contents = b :: rest →
    b.toNat = 0xC0 + 16 * k.val + c.toNat → accLegal s.handler.acc = true →
    let taken : Memory := { s.mem with inb := { s.mem.inb with contents := rest } }
    let next := s.handler.acc ||| (1#4 <<< k.val)
    (accLegal next = false → exec (controlRow k c) s = .next { s with
      mem := taken, handler := { s.handler with acc := next, state := .checkFinal } }) ∧
    (next = s.handler.acc → exec (controlRow k c) s = .next { s with
      mem := taken
      handler := { s.handler with
        state := .checkFinal
        pend := if k = 0 ∧ s.handler.acc = 1#4 then .start1WithoutStart2
          else if k = 1 then .reentrantBlock else .markerOutOfPositionSequence } })

/-- R158, in `HandleBlock`: a mask byte starts a block, dropping a partial one (decision D14), unless all blocks are in
(decision D13). -/
def Obligations.MaskByteStartsABlock : Prop :=
  ∀ (s : State) (m : BitVec 6), s.handler.initialized = true → s.handler.state = .handleBlock →
    s.handler.cur.toNat = 0x80 + m.toNat → s.handler.pend = .none →
    (s.handler.blocks = s.handler.frameN → exec (.wireMask m) s = .next { s with
      handler := { s.handler with pend := .blockIndexOutOfBounds, state := .processError } }) ∧
    (s.handler.blocks ≠ s.handler.frameN → exec (.wireMask m) s = .next { s with
      handler := { s.handler with
        blk := { s.handler.blk with mask := s.handler.cur }, i := 1#3, state := .checkFinal } })

/-- R159, in `HandleBlock`: a data byte where a block must start is `ExcessiveStuffing` (decision D12); the second to
seventh byte of a block is stored at its index. -/
def Obligations.DataByteIsCollected : Prop :=
  ∀ (s : State) (d : BitVec 7), s.handler.initialized = true → s.handler.state = .handleBlock →
    s.handler.cur.toNat = d.toNat → s.handler.pend = .none →
    (s.handler.i = 0#3 → exec (.wireData d) s = .next { s with
      handler := { s.handler with pend := .excessiveStuffing, state := .processError } }) ∧
    (0 < s.handler.i.toNat → s.handler.i.toNat < 7 →
      ∃ (blk : Blk8) (i : BitVec 3), i.toNat = s.handler.i.toNat + 1 ∧
        blk.toList = s.handler.blk.toList.set s.handler.i.toNat s.handler.cur ∧
        exec (.wireData d) s = .next { s with
          handler := { s.handler with blk := blk, i := i, state := .checkFinal } })

/-- R159, R160: the eighth byte of a block: a wrong checksum, no room in `APP` (the bytes already put stay pending), or
six decoded bytes pushed and the block counted. The premises on `APP` are those of an open reversible write. -/
def Obligations.EighthByteCompletesTheBlock : Prop :=
  ∀ (s : State) (d : BitVec 7), s.handler.initialized = true → s.handler.state = .handleBlock →
    s.handler.cur.toNat = d.toNat → s.handler.pend = .none → s.handler.i = 7#3 →
    s.mem.app.rw = true → s.mem.app.locked = false →
    s.mem.app.contents.length + s.mem.app.pending.length ≤ s.params.appCap →
    let blk : Blk8 := { s.handler.blk with d5 := s.handler.cur }
    let room := s.params.appCap - (s.mem.app.contents.length + s.mem.app.pending.length)
    (decodeBlock s.params.checksumId blk = none → exec (.wireData d) s = .next { s with
      handler := { s.handler with blk := blk, i := 0#3, pend := .checksumMismatch, state := .processError } }) ∧
    (∀ r, decodeBlock s.params.checksumId blk = some r → room < 6 → exec (.wireData d) s = .next { s with
      handler := { s.handler with blk := blk, i := 0#3, pend := .outboundWriteFailed, state := .processError }
      mem := { s.mem with app := { s.mem.app with
        pending := s.mem.app.pending ++ [r.b0, r.b1, r.b2, r.b3, r.b4, r.b5].take room } } }) ∧
    (∀ r, decodeBlock s.params.checksumId blk = some r → 6 ≤ room → exec (.wireData d) s = .next { s with
      handler := { s.handler with blk := blk, i := 0#3, blocks := s.handler.blocks + 1#4, state := .checkFinal }
      mem := { s.mem with app := { s.mem.app with
        pending := s.mem.app.pending ++ [r.b0, r.b1, r.b2, r.b3, r.b4, r.b5] } } })

/-- R147: the sample point, in the order of R181 (d): a pending error, an illegal accumulator, the commit, or the next
byte. -/
def Obligations.HPollSamplesTheAccumulator : Prop :=
  ∀ s : State, s.handler.initialized = true → s.handler.state = .checkFinal →
    (s.handler.pend ≠ .none → exec .hPoll s = .next { s with
      handler := { s.handler with state := .processError }, answer := .response .ok 0#32 }) ∧
    (s.handler.pend = .none → s.handler.acc ∉ ([0#4, 1#4, 3#4, 7#4, 15#4] : List (BitVec 4)) →
      exec .hPoll s = .next { s with
        handler := { s.handler with pend := .markerAccumulatorInvalid, state := .processError }
        answer := .response .ok 0#32 }) ∧
    (s.handler.pend = .none → s.handler.acc ∈ ([0#4, 1#4, 3#4, 7#4] : List (BitVec 4)) →
      exec .hPoll s = .next { s with
        handler := { s.handler with state := .waitForBytes }, answer := .response .ok 0#32 }) ∧
    (s.handler.pend = .none → s.handler.acc = 15#4 → s.handler.blocks = s.handler.frameN → s.handler.i = 0#3 →
      exec .hPoll s = .next { s with
        handler := { s.handler with rwOpen := false, state := .waitProcessed }
        mem := { s.mem with app := { s.mem.app with
          contents := s.mem.app.contents ++ s.mem.app.pending, pending := [], rw := false } }
        appLsn := true
        answer := .response .ok 0#32 }) ∧
    (s.handler.pend = .none → s.handler.acc = 15#4 → (s.handler.blocks ≠ s.handler.frameN ∨ s.handler.i ≠ 0#3) →
      exec .hPoll s = .next { s with
        handler := { s.handler with pend := .blockIndexOutOfBounds, state := .processError }
        answer := .response .ok 0#32 })

/-- R150, R175: the error state's poll undoes the frame, records the pending error and returns to `Idle`. (R150 infers that
an error is pending there; that with none pending, which no run reaches, the kind `none` is recorded is
notes/assumptions/11, DEDUCED.) -/
def Obligations.HPollProcessesTheError : Prop :=
  ∀ s : State, s.handler.initialized = true → s.handler.state = .processError →
    exec .hPoll s = .next { s with
      handler := { s.handler with
        rwOpen := false, lastError := s.handler.pend, acc := 0#4, frameN := 0#4, blocks := 0#4, i := 0#3,
        pend := .none, state := .idle }
      handlerHistory := s.handlerHistory ++ [s.handler.pend]
      mem := { s.mem with
        app := if s.handler.rwOpen then { s.mem.app with pending := [], rw := false } else s.mem.app }
      answer := .response .ok 0#32 }

/-- R165 with R160 and R147: a good frame is received whole. With its bytes at the front of `IN`, every checksum byte a
DATA byte that matches, and room in `APP`, `13 + 32n` polls from `Idle` commit the decoded bytes of its blocks, in
order, and raise `AppLsn`; no error is recorded, the bytes behind the frame stay, and so does the writer's side. -/
def Obligations.HandlerReceivesAGoodFrame : Prop :=
  ∀ (s : State) (n : BitVec 4) (blocks : List WireBlock) (raws : List Raw6) (rest : List Byte),
    s.handler.initialized = true → s.handler.state = .idle → s.handler.regApp = true → s.handler.regLsn = true →
    HandlerInv s → s.mem.app.pending = [] → s.mem.app.locked = false → n ≠ 0#4 → blocks.length = n.toNat →
    blocks.map (fun b => decodeBlock s.params.checksumId b.toBlk8) = raws.map some → (∀ b ∈ blocks, b.c ≤ 0x7F#8) →
    s.mem.inb.contents = frameBytes n (blocks.map WireBlock.toBlk8) ++ rest →
    s.mem.app.contents.length + 6 * n.toNat ≤ s.params.appCap →
    ∃ t, handlerPolls (13 + 32 * n.toNat) s = .next t ∧ t.handler.state = .waitProcessed ∧ t.appLsn = true ∧
      t.mem.app = { s.mem.app with contents := s.mem.app.contents ++ raws.flatMap rawList } ∧
      t.mem.inb = { s.mem.inb with contents := rest } ∧ t.handlerHistory = s.handlerHistory ∧
      t.handler.lastError = s.handler.lastError ∧ t.writer = s.writer ∧ t.mem.src = s.mem.src ∧
      t.mem.out = s.mem.out ∧ t.sendLsn = s.sendLsn ∧ t.writerHistory = s.writerHistory

/-! ## Environment port -/

/-- R167, R168, R57: the oldest byte is taken and answered; an empty buffer answers `0x100` (decision D4); R169, R170:
the consumer clears a listener flag, whether or not it was raised (decision D26). Never gated and never held (R166). -/
def Obligations.EnvironmentTakesBytesAndClearsFlags : Prop :=
  ∀ s : State,
    (s.mem.out.contents = [] → exec .eOutget s = .next { s with answer := .response .ok 0x100#32 }) ∧
    (∀ v rest, s.mem.out.contents = v :: rest → exec .eOutget s = .next { s with
      mem := { s.mem with out := { s.mem.out with contents := rest } }
      answer := .response .ok (v.setWidth 32) }) ∧
    (s.mem.app.contents = [] → exec .eAppget s = .next { s with answer := .response .ok 0x100#32 }) ∧
    (∀ v rest, s.mem.app.contents = v :: rest → exec .eAppget s = .next { s with
      mem := { s.mem with app := { s.mem.app with contents := rest } }
      answer := .response .ok (v.setWidth 32) }) ∧
    exec .eClrapplsn s = .next { s with appLsn := false, answer := .response .ok 0#32 } ∧
    exec .eClrsendlsn s = .next { s with sendLsn := false, answer := .response .ok 0#32 }

/-! ## The whole machine -/

/-- The launch state meets the invariant. (It rests on the values the model names for the registers R192 leaves
unspecified, notes/assumptions/1.) -/
def Obligations.LaunchStateMeetsTheInvariant : Prop := Inv State.reset

/-- R55, R131, R161: every step keeps the buffers' form and the properties of both units. In the state
`Reset` `W.n` is the number of blocks sent, not always 0 as R131 (c) has it (notes/assumptions/9). -/
def Obligations.StepKeepsTheInvariant : Prop :=
  ∀ s t : State, Inv s → step s = .next t → Inv t

/-- The instructions of the writer's side: its commands, its internal step, the encoder, and the units it emits. -/
def writerSide : Instr → Prop
  | .wInit | .wPoll | .wOpen | .wWrite _ | .wClose | .wTrigger | .wQcount | .wRegout | .wReglsn | .wStatus => True
  | .wSpin | .codecEncode _ | .frame _ _ | .block _ => True
  | .hInit | .hPoll | .hSubmit _ | .hRegapp | .hReglsn | .hStatus => False
  | .codecDecode _ | .wireData _ | .wireMask _ | .wireSc1 _ | .wireSc2 _ | .wireEc1 _ | .wireEc2 _ => False
  | .eOutget | .eAppget | .eClrapplsn | .eClrsendlsn => False

/-- The instructions of the handler's side: its commands, the decoder, and the wire bytes it takes. -/
def handlerSide : Instr → Prop
  | .wInit | .wPoll | .wOpen | .wWrite _ | .wClose | .wTrigger | .wQcount | .wRegout | .wReglsn | .wStatus => False
  | .wSpin | .codecEncode _ | .frame _ _ | .block _ => False
  | .hInit | .hPoll | .hSubmit _ | .hRegapp | .hReglsn | .hStatus => True
  | .codecDecode _ | .wireData _ | .wireMask _ | .wireSc1 _ | .wireSc2 _ | .wireEc1 _ | .wireEc2 _ => True
  | .eOutget | .eAppget | .eClrapplsn | .eClrsendlsn => False

/-- Two states agree on what belongs to the writer. -/
structure AgreeOnWriter (s t : State) : Prop where
  writer : s.writer = t.writer
  src : s.mem.src = t.mem.src
  out : s.mem.out = t.mem.out
  sendLsn : s.sendLsn = t.sendLsn
  history : s.writerHistory = t.writerHistory

/-- Two states agree on what belongs to the handler. -/
structure AgreeOnHandler (s t : State) : Prop where
  handler : s.handler = t.handler
  inb : s.mem.inb = t.mem.inb
  app : s.mem.app = t.mem.app
  appLsn : s.appLsn = t.appLsn
  history : s.handlerHistory = t.handlerHistory

/-- R184, R65, R66: no writer step writes handler state, `IN` or `APP`, and no handler step writer state, `SRC` or `OUT`:
each leaves the other side as it is. -/
def Obligations.WriterAndHandlerAreIndependent : Prop :=
  ∀ (s t : State) (i : Instr), exec i s = .next t →
    (writerSide i → AgreeOnHandler t s) ∧ (handlerSide i → AgreeOnWriter t s)

/-- R184, as non-interference, for both sides: if two states agree on one side and in their parameters, an instruction of
that side has the same outcome in both, as far as that side and the answer go, whatever the other side holds: it is
refused in both, for the same reason, or goes on in both to states that agree on the side again and, if the answers did
before (`W.SPIN` and the wire rows answer nothing), in the answer. -/
def Obligations.NeitherUnitReadsTheOther : Prop :=
  ∀ (s₁ s₂ : State) (i : Instr), s₁.params = s₂.params → s₁.answer = s₂.answer →
    (writerSide i → AgreeOnWriter s₁ s₂ →
      (∀ t₁, exec i s₁ = .next t₁ → ∃ t₂, exec i s₂ = .next t₂ ∧ AgreeOnWriter t₁ t₂ ∧ t₁.answer = t₂.answer) ∧
      (∀ r, exec i s₁ = .refused r → exec i s₂ = .refused r)) ∧
    (handlerSide i → AgreeOnHandler s₁ s₂ →
      (∀ t₁, exec i s₁ = .next t₁ → ∃ t₂, exec i s₂ = .next t₂ ∧ AgreeOnHandler t₁ t₂ ∧ t₁.answer = t₂.answer) ∧
      (∀ r, exec i s₁ = .refused r → exec i s₂ = .refused r))

/-- R74, R162: the bytes a consumer can read change in two ways only: it takes the oldest one, or a poll at `CheckFinal`
with `FINISHED`, no error and all blocks in commits everything pending at once. The handler's invariant rules out the
states, which no run reaches, whose block phase runs with no reversible write open. -/
def Obligations.AppGrowsOnlyByACommit : Prop :=
  ∀ (i : Instr) (s t : State), HandlerInv s → exec i s = .next t →
    t.mem.app.contents = s.mem.app.contents ∨
    (i = .eAppget ∧ t.mem.app.contents = s.mem.app.contents.drop 1) ∨
    (i = .hPoll ∧ s.handler.state = .checkFinal ∧ s.handler.pend = .none ∧ s.handler.acc = 15#4 ∧
      s.handler.blocks = s.handler.frameN ∧ s.handler.i = 0#3 ∧ t.appLsn = true ∧
      t.mem.app.contents = s.mem.app.contents ++ s.mem.app.pending)

/-- R73 (the spec's own inference) for `SRC`, `OUT` and `IN`: which instruction may change what a reader can take, and how:
bytes leave from the front, in order, or go to the back. `W.INIT` and `H.INIT` empty `SRC` and `IN` at once (R193, R194), and
a poll that finds `SRC` too large drops all of it (R116). (`APP`: `AppGrowsOnlyByACommit`.) -/
def Obligations.BuffersAreFirstInFirstOut : Prop :=
  ∀ (i : Instr) (s t : State), exec i s = .next t →
    ((t.mem.src.contents = s.mem.src.contents) ∨
      (∃ b, i = .wWrite b ∧ t.mem.src.contents = s.mem.src.contents ++ [b]) ∨
      ((i = .wPoll ∨ ∃ n bs, i = .frame n bs) ∧ ∃ k, t.mem.src.contents = s.mem.src.contents.drop k) ∨
      (i = .wInit ∧ t.mem.src.contents = [])) ∧
    ((t.mem.out.contents = s.mem.out.contents) ∨
      (i = .eOutget ∧ t.mem.out.contents = s.mem.out.contents.drop 1) ∨
      ((i = .wPoll ∨ i = .wSpin ∨ (∃ n bs, i = .frame n bs) ∨ ∃ b, i = .block b) ∧
        ∃ l, t.mem.out.contents = s.mem.out.contents ++ l)) ∧
    ((t.mem.inb.contents = s.mem.inb.contents) ∨
      (∃ b, i = .hSubmit b ∧ t.mem.inb.contents = s.mem.inb.contents ++ [b]) ∨
      ((i = .hPoll ∨ ∃ b, i = decodeWireByte b) ∧ t.mem.inb.contents = s.mem.inb.contents.drop 1) ∨
      (i = .hInit ∧ t.mem.inb.contents = []))
end

