-- ==== Sys2Proof/Laws/State.lean ====
section
/-!
SUPPORT. What each update of the state does to each field: one lemma per field per update, true by rfl, so that no proof
unfolds a record update.
-/

namespace Sys2Proof.Machine

variable (s : State)

@[simp] theorem State.setWriter_params (v : Writer) : (s.setWriter v).params = s.params := rfl
@[simp] theorem State.setWriter_writer (v : Writer) : (s.setWriter v).writer = v := rfl
@[simp] theorem State.setWriter_handler (v : Writer) : (s.setWriter v).handler = s.handler := rfl
@[simp] theorem State.setWriter_mem_src (v : Writer) : (s.setWriter v).mem.src = s.mem.src := rfl
@[simp] theorem State.setWriter_mem_out (v : Writer) : (s.setWriter v).mem.out = s.mem.out := rfl
@[simp] theorem State.setWriter_mem_inb (v : Writer) : (s.setWriter v).mem.inb = s.mem.inb := rfl
@[simp] theorem State.setWriter_mem_app (v : Writer) : (s.setWriter v).mem.app = s.mem.app := rfl
@[simp] theorem State.setWriter_sendLsn (v : Writer) : (s.setWriter v).sendLsn = s.sendLsn := rfl
@[simp] theorem State.setWriter_appLsn (v : Writer) : (s.setWriter v).appLsn = s.appLsn := rfl
@[simp] theorem State.setWriter_writerHistory (v : Writer) : (s.setWriter v).writerHistory = s.writerHistory := rfl
@[simp] theorem State.setWriter_handlerHistory (v : Writer) : (s.setWriter v).handlerHistory = s.handlerHistory := rfl
@[simp] theorem State.setWriter_answer (v : Writer) : (s.setWriter v).answer = s.answer := rfl
@[simp] theorem State.setWriter_queues (v : Writer) : (s.setWriter v).queues = s.queues := rfl
@[simp] theorem State.setWriter_turns (v : Writer) : (s.setWriter v).turns = s.turns := rfl
@[simp] theorem State.setWriter_mem (v : Writer) : (s.setWriter v).mem = s.mem := rfl

@[simp] theorem State.setHandler_params (v : Handler) : (s.setHandler v).params = s.params := rfl
@[simp] theorem State.setHandler_writer (v : Handler) : (s.setHandler v).writer = s.writer := rfl
@[simp] theorem State.setHandler_handler (v : Handler) : (s.setHandler v).handler = v := rfl
@[simp] theorem State.setHandler_mem_src (v : Handler) : (s.setHandler v).mem.src = s.mem.src := rfl
@[simp] theorem State.setHandler_mem_out (v : Handler) : (s.setHandler v).mem.out = s.mem.out := rfl
@[simp] theorem State.setHandler_mem_inb (v : Handler) : (s.setHandler v).mem.inb = s.mem.inb := rfl
@[simp] theorem State.setHandler_mem_app (v : Handler) : (s.setHandler v).mem.app = s.mem.app := rfl
@[simp] theorem State.setHandler_sendLsn (v : Handler) : (s.setHandler v).sendLsn = s.sendLsn := rfl
@[simp] theorem State.setHandler_appLsn (v : Handler) : (s.setHandler v).appLsn = s.appLsn := rfl
@[simp] theorem State.setHandler_writerHistory (v : Handler) : (s.setHandler v).writerHistory = s.writerHistory := rfl
@[simp] theorem State.setHandler_handlerHistory (v : Handler) : (s.setHandler v).handlerHistory = s.handlerHistory := rfl
@[simp] theorem State.setHandler_answer (v : Handler) : (s.setHandler v).answer = s.answer := rfl
@[simp] theorem State.setHandler_queues (v : Handler) : (s.setHandler v).queues = s.queues := rfl
@[simp] theorem State.setHandler_turns (v : Handler) : (s.setHandler v).turns = s.turns := rfl
@[simp] theorem State.setHandler_mem (v : Handler) : (s.setHandler v).mem = s.mem := rfl

@[simp] theorem State.setSrc_params (v : Buffer) : (s.setSrc v).params = s.params := rfl
@[simp] theorem State.setSrc_writer (v : Buffer) : (s.setSrc v).writer = s.writer := rfl
@[simp] theorem State.setSrc_handler (v : Buffer) : (s.setSrc v).handler = s.handler := rfl
@[simp] theorem State.setSrc_mem_src (v : Buffer) : (s.setSrc v).mem.src = v := rfl
@[simp] theorem State.setSrc_mem_out (v : Buffer) : (s.setSrc v).mem.out = s.mem.out := rfl
@[simp] theorem State.setSrc_mem_inb (v : Buffer) : (s.setSrc v).mem.inb = s.mem.inb := rfl
@[simp] theorem State.setSrc_mem_app (v : Buffer) : (s.setSrc v).mem.app = s.mem.app := rfl
@[simp] theorem State.setSrc_sendLsn (v : Buffer) : (s.setSrc v).sendLsn = s.sendLsn := rfl
@[simp] theorem State.setSrc_appLsn (v : Buffer) : (s.setSrc v).appLsn = s.appLsn := rfl
@[simp] theorem State.setSrc_writerHistory (v : Buffer) : (s.setSrc v).writerHistory = s.writerHistory := rfl
@[simp] theorem State.setSrc_handlerHistory (v : Buffer) : (s.setSrc v).handlerHistory = s.handlerHistory := rfl
@[simp] theorem State.setSrc_answer (v : Buffer) : (s.setSrc v).answer = s.answer := rfl
@[simp] theorem State.setSrc_queues (v : Buffer) : (s.setSrc v).queues = s.queues := rfl
@[simp] theorem State.setSrc_turns (v : Buffer) : (s.setSrc v).turns = s.turns := rfl

@[simp] theorem State.setOut_params (v : Buffer) : (s.setOut v).params = s.params := rfl
@[simp] theorem State.setOut_writer (v : Buffer) : (s.setOut v).writer = s.writer := rfl
@[simp] theorem State.setOut_handler (v : Buffer) : (s.setOut v).handler = s.handler := rfl
@[simp] theorem State.setOut_mem_src (v : Buffer) : (s.setOut v).mem.src = s.mem.src := rfl
@[simp] theorem State.setOut_mem_out (v : Buffer) : (s.setOut v).mem.out = v := rfl
@[simp] theorem State.setOut_mem_inb (v : Buffer) : (s.setOut v).mem.inb = s.mem.inb := rfl
@[simp] theorem State.setOut_mem_app (v : Buffer) : (s.setOut v).mem.app = s.mem.app := rfl
@[simp] theorem State.setOut_sendLsn (v : Buffer) : (s.setOut v).sendLsn = s.sendLsn := rfl
@[simp] theorem State.setOut_appLsn (v : Buffer) : (s.setOut v).appLsn = s.appLsn := rfl
@[simp] theorem State.setOut_writerHistory (v : Buffer) : (s.setOut v).writerHistory = s.writerHistory := rfl
@[simp] theorem State.setOut_handlerHistory (v : Buffer) : (s.setOut v).handlerHistory = s.handlerHistory := rfl
@[simp] theorem State.setOut_answer (v : Buffer) : (s.setOut v).answer = s.answer := rfl
@[simp] theorem State.setOut_queues (v : Buffer) : (s.setOut v).queues = s.queues := rfl
@[simp] theorem State.setOut_turns (v : Buffer) : (s.setOut v).turns = s.turns := rfl

@[simp] theorem State.setIn_params (v : Buffer) : (s.setIn v).params = s.params := rfl
@[simp] theorem State.setIn_writer (v : Buffer) : (s.setIn v).writer = s.writer := rfl
@[simp] theorem State.setIn_handler (v : Buffer) : (s.setIn v).handler = s.handler := rfl
@[simp] theorem State.setIn_mem_src (v : Buffer) : (s.setIn v).mem.src = s.mem.src := rfl
@[simp] theorem State.setIn_mem_out (v : Buffer) : (s.setIn v).mem.out = s.mem.out := rfl
@[simp] theorem State.setIn_mem_inb (v : Buffer) : (s.setIn v).mem.inb = v := rfl
@[simp] theorem State.setIn_mem_app (v : Buffer) : (s.setIn v).mem.app = s.mem.app := rfl
@[simp] theorem State.setIn_sendLsn (v : Buffer) : (s.setIn v).sendLsn = s.sendLsn := rfl
@[simp] theorem State.setIn_appLsn (v : Buffer) : (s.setIn v).appLsn = s.appLsn := rfl
@[simp] theorem State.setIn_writerHistory (v : Buffer) : (s.setIn v).writerHistory = s.writerHistory := rfl
@[simp] theorem State.setIn_handlerHistory (v : Buffer) : (s.setIn v).handlerHistory = s.handlerHistory := rfl
@[simp] theorem State.setIn_answer (v : Buffer) : (s.setIn v).answer = s.answer := rfl
@[simp] theorem State.setIn_queues (v : Buffer) : (s.setIn v).queues = s.queues := rfl
@[simp] theorem State.setIn_turns (v : Buffer) : (s.setIn v).turns = s.turns := rfl

@[simp] theorem State.setApp_params (v : Buffer) : (s.setApp v).params = s.params := rfl
@[simp] theorem State.setApp_writer (v : Buffer) : (s.setApp v).writer = s.writer := rfl
@[simp] theorem State.setApp_handler (v : Buffer) : (s.setApp v).handler = s.handler := rfl
@[simp] theorem State.setApp_mem_src (v : Buffer) : (s.setApp v).mem.src = s.mem.src := rfl
@[simp] theorem State.setApp_mem_out (v : Buffer) : (s.setApp v).mem.out = s.mem.out := rfl
@[simp] theorem State.setApp_mem_inb (v : Buffer) : (s.setApp v).mem.inb = s.mem.inb := rfl
@[simp] theorem State.setApp_mem_app (v : Buffer) : (s.setApp v).mem.app = v := rfl
@[simp] theorem State.setApp_sendLsn (v : Buffer) : (s.setApp v).sendLsn = s.sendLsn := rfl
@[simp] theorem State.setApp_appLsn (v : Buffer) : (s.setApp v).appLsn = s.appLsn := rfl
@[simp] theorem State.setApp_writerHistory (v : Buffer) : (s.setApp v).writerHistory = s.writerHistory := rfl
@[simp] theorem State.setApp_handlerHistory (v : Buffer) : (s.setApp v).handlerHistory = s.handlerHistory := rfl
@[simp] theorem State.setApp_answer (v : Buffer) : (s.setApp v).answer = s.answer := rfl
@[simp] theorem State.setApp_queues (v : Buffer) : (s.setApp v).queues = s.queues := rfl
@[simp] theorem State.setApp_turns (v : Buffer) : (s.setApp v).turns = s.turns := rfl

@[simp] theorem State.setSendLsn_params (v : Bool) : (s.setSendLsn v).params = s.params := rfl
@[simp] theorem State.setSendLsn_writer (v : Bool) : (s.setSendLsn v).writer = s.writer := rfl
@[simp] theorem State.setSendLsn_handler (v : Bool) : (s.setSendLsn v).handler = s.handler := rfl
@[simp] theorem State.setSendLsn_mem_src (v : Bool) : (s.setSendLsn v).mem.src = s.mem.src := rfl
@[simp] theorem State.setSendLsn_mem_out (v : Bool) : (s.setSendLsn v).mem.out = s.mem.out := rfl
@[simp] theorem State.setSendLsn_mem_inb (v : Bool) : (s.setSendLsn v).mem.inb = s.mem.inb := rfl
@[simp] theorem State.setSendLsn_mem_app (v : Bool) : (s.setSendLsn v).mem.app = s.mem.app := rfl
@[simp] theorem State.setSendLsn_sendLsn (v : Bool) : (s.setSendLsn v).sendLsn = v := rfl
@[simp] theorem State.setSendLsn_appLsn (v : Bool) : (s.setSendLsn v).appLsn = s.appLsn := rfl
@[simp] theorem State.setSendLsn_writerHistory (v : Bool) : (s.setSendLsn v).writerHistory = s.writerHistory := rfl
@[simp] theorem State.setSendLsn_handlerHistory (v : Bool) : (s.setSendLsn v).handlerHistory = s.handlerHistory := rfl
@[simp] theorem State.setSendLsn_answer (v : Bool) : (s.setSendLsn v).answer = s.answer := rfl
@[simp] theorem State.setSendLsn_queues (v : Bool) : (s.setSendLsn v).queues = s.queues := rfl
@[simp] theorem State.setSendLsn_turns (v : Bool) : (s.setSendLsn v).turns = s.turns := rfl
@[simp] theorem State.setSendLsn_mem (v : Bool) : (s.setSendLsn v).mem = s.mem := rfl

@[simp] theorem State.setAppLsn_params (v : Bool) : (s.setAppLsn v).params = s.params := rfl
@[simp] theorem State.setAppLsn_writer (v : Bool) : (s.setAppLsn v).writer = s.writer := rfl
@[simp] theorem State.setAppLsn_handler (v : Bool) : (s.setAppLsn v).handler = s.handler := rfl
@[simp] theorem State.setAppLsn_mem_src (v : Bool) : (s.setAppLsn v).mem.src = s.mem.src := rfl
@[simp] theorem State.setAppLsn_mem_out (v : Bool) : (s.setAppLsn v).mem.out = s.mem.out := rfl
@[simp] theorem State.setAppLsn_mem_inb (v : Bool) : (s.setAppLsn v).mem.inb = s.mem.inb := rfl
@[simp] theorem State.setAppLsn_mem_app (v : Bool) : (s.setAppLsn v).mem.app = s.mem.app := rfl
@[simp] theorem State.setAppLsn_sendLsn (v : Bool) : (s.setAppLsn v).sendLsn = s.sendLsn := rfl
@[simp] theorem State.setAppLsn_appLsn (v : Bool) : (s.setAppLsn v).appLsn = v := rfl
@[simp] theorem State.setAppLsn_writerHistory (v : Bool) : (s.setAppLsn v).writerHistory = s.writerHistory := rfl
@[simp] theorem State.setAppLsn_handlerHistory (v : Bool) : (s.setAppLsn v).handlerHistory = s.handlerHistory := rfl
@[simp] theorem State.setAppLsn_answer (v : Bool) : (s.setAppLsn v).answer = s.answer := rfl
@[simp] theorem State.setAppLsn_queues (v : Bool) : (s.setAppLsn v).queues = s.queues := rfl
@[simp] theorem State.setAppLsn_turns (v : Bool) : (s.setAppLsn v).turns = s.turns := rfl
@[simp] theorem State.setAppLsn_mem (v : Bool) : (s.setAppLsn v).mem = s.mem := rfl

@[simp] theorem State.setWriterHistory_params (v : List WriterError) : (s.setWriterHistory v).params = s.params := rfl
@[simp] theorem State.setWriterHistory_writer (v : List WriterError) : (s.setWriterHistory v).writer = s.writer := rfl
@[simp] theorem State.setWriterHistory_handler (v : List WriterError) : (s.setWriterHistory v).handler = s.handler := rfl
@[simp] theorem State.setWriterHistory_mem_src (v : List WriterError) : (s.setWriterHistory v).mem.src = s.mem.src := rfl
@[simp] theorem State.setWriterHistory_mem_out (v : List WriterError) : (s.setWriterHistory v).mem.out = s.mem.out := rfl
@[simp] theorem State.setWriterHistory_mem_inb (v : List WriterError) : (s.setWriterHistory v).mem.inb = s.mem.inb := rfl
@[simp] theorem State.setWriterHistory_mem_app (v : List WriterError) : (s.setWriterHistory v).mem.app = s.mem.app := rfl
@[simp] theorem State.setWriterHistory_sendLsn (v : List WriterError) : (s.setWriterHistory v).sendLsn = s.sendLsn := rfl
@[simp] theorem State.setWriterHistory_appLsn (v : List WriterError) : (s.setWriterHistory v).appLsn = s.appLsn := rfl
@[simp] theorem State.setWriterHistory_writerHistory (v : List WriterError) : (s.setWriterHistory v).writerHistory = v := rfl
@[simp] theorem State.setWriterHistory_handlerHistory (v : List WriterError) : (s.setWriterHistory v).handlerHistory = s.handlerHistory := rfl
@[simp] theorem State.setWriterHistory_answer (v : List WriterError) : (s.setWriterHistory v).answer = s.answer := rfl
@[simp] theorem State.setWriterHistory_queues (v : List WriterError) : (s.setWriterHistory v).queues = s.queues := rfl
@[simp] theorem State.setWriterHistory_turns (v : List WriterError) : (s.setWriterHistory v).turns = s.turns := rfl
@[simp] theorem State.setWriterHistory_mem (v : List WriterError) : (s.setWriterHistory v).mem = s.mem := rfl

@[simp] theorem State.setHandlerHistory_params (v : List HandlerError) : (s.setHandlerHistory v).params = s.params := rfl
@[simp] theorem State.setHandlerHistory_writer (v : List HandlerError) : (s.setHandlerHistory v).writer = s.writer := rfl
@[simp] theorem State.setHandlerHistory_handler (v : List HandlerError) : (s.setHandlerHistory v).handler = s.handler := rfl
@[simp] theorem State.setHandlerHistory_mem_src (v : List HandlerError) : (s.setHandlerHistory v).mem.src = s.mem.src := rfl
@[simp] theorem State.setHandlerHistory_mem_out (v : List HandlerError) : (s.setHandlerHistory v).mem.out = s.mem.out := rfl
@[simp] theorem State.setHandlerHistory_mem_inb (v : List HandlerError) : (s.setHandlerHistory v).mem.inb = s.mem.inb := rfl
@[simp] theorem State.setHandlerHistory_mem_app (v : List HandlerError) : (s.setHandlerHistory v).mem.app = s.mem.app := rfl
@[simp] theorem State.setHandlerHistory_sendLsn (v : List HandlerError) : (s.setHandlerHistory v).sendLsn = s.sendLsn := rfl
@[simp] theorem State.setHandlerHistory_appLsn (v : List HandlerError) : (s.setHandlerHistory v).appLsn = s.appLsn := rfl
@[simp] theorem State.setHandlerHistory_writerHistory (v : List HandlerError) : (s.setHandlerHistory v).writerHistory = s.writerHistory := rfl
@[simp] theorem State.setHandlerHistory_handlerHistory (v : List HandlerError) : (s.setHandlerHistory v).handlerHistory = v := rfl
@[simp] theorem State.setHandlerHistory_answer (v : List HandlerError) : (s.setHandlerHistory v).answer = s.answer := rfl
@[simp] theorem State.setHandlerHistory_queues (v : List HandlerError) : (s.setHandlerHistory v).queues = s.queues := rfl
@[simp] theorem State.setHandlerHistory_turns (v : List HandlerError) : (s.setHandlerHistory v).turns = s.turns := rfl
@[simp] theorem State.setHandlerHistory_mem (v : List HandlerError) : (s.setHandlerHistory v).mem = s.mem := rfl

@[simp] theorem State.setAnswer_params (v : Answer) : (s.setAnswer v).params = s.params := rfl
@[simp] theorem State.setAnswer_writer (v : Answer) : (s.setAnswer v).writer = s.writer := rfl
@[simp] theorem State.setAnswer_handler (v : Answer) : (s.setAnswer v).handler = s.handler := rfl
@[simp] theorem State.setAnswer_mem_src (v : Answer) : (s.setAnswer v).mem.src = s.mem.src := rfl
@[simp] theorem State.setAnswer_mem_out (v : Answer) : (s.setAnswer v).mem.out = s.mem.out := rfl
@[simp] theorem State.setAnswer_mem_inb (v : Answer) : (s.setAnswer v).mem.inb = s.mem.inb := rfl
@[simp] theorem State.setAnswer_mem_app (v : Answer) : (s.setAnswer v).mem.app = s.mem.app := rfl
@[simp] theorem State.setAnswer_sendLsn (v : Answer) : (s.setAnswer v).sendLsn = s.sendLsn := rfl
@[simp] theorem State.setAnswer_appLsn (v : Answer) : (s.setAnswer v).appLsn = s.appLsn := rfl
@[simp] theorem State.setAnswer_writerHistory (v : Answer) : (s.setAnswer v).writerHistory = s.writerHistory := rfl
@[simp] theorem State.setAnswer_handlerHistory (v : Answer) : (s.setAnswer v).handlerHistory = s.handlerHistory := rfl
@[simp] theorem State.setAnswer_answer (v : Answer) : (s.setAnswer v).answer = v := rfl
@[simp] theorem State.setAnswer_queues (v : Answer) : (s.setAnswer v).queues = s.queues := rfl
@[simp] theorem State.setAnswer_turns (v : Answer) : (s.setAnswer v).turns = s.turns := rfl
@[simp] theorem State.setAnswer_mem (v : Answer) : (s.setAnswer v).mem = s.mem := rfl

@[simp] theorem State.setQueues_params (v : Queues) : (s.setQueues v).params = s.params := rfl
@[simp] theorem State.setQueues_writer (v : Queues) : (s.setQueues v).writer = s.writer := rfl
@[simp] theorem State.setQueues_handler (v : Queues) : (s.setQueues v).handler = s.handler := rfl
@[simp] theorem State.setQueues_mem_src (v : Queues) : (s.setQueues v).mem.src = s.mem.src := rfl
@[simp] theorem State.setQueues_mem_out (v : Queues) : (s.setQueues v).mem.out = s.mem.out := rfl
@[simp] theorem State.setQueues_mem_inb (v : Queues) : (s.setQueues v).mem.inb = s.mem.inb := rfl
@[simp] theorem State.setQueues_mem_app (v : Queues) : (s.setQueues v).mem.app = s.mem.app := rfl
@[simp] theorem State.setQueues_sendLsn (v : Queues) : (s.setQueues v).sendLsn = s.sendLsn := rfl
@[simp] theorem State.setQueues_appLsn (v : Queues) : (s.setQueues v).appLsn = s.appLsn := rfl
@[simp] theorem State.setQueues_writerHistory (v : Queues) : (s.setQueues v).writerHistory = s.writerHistory := rfl
@[simp] theorem State.setQueues_handlerHistory (v : Queues) : (s.setQueues v).handlerHistory = s.handlerHistory := rfl
@[simp] theorem State.setQueues_answer (v : Queues) : (s.setQueues v).answer = s.answer := rfl
@[simp] theorem State.setQueues_queues (v : Queues) : (s.setQueues v).queues = v := rfl
@[simp] theorem State.setQueues_turns (v : Queues) : (s.setQueues v).turns = s.turns := rfl
@[simp] theorem State.setQueues_mem (v : Queues) : (s.setQueues v).mem = s.mem := rfl

@[simp] theorem State.setTurns_params (v : List Turn) : (s.setTurns v).params = s.params := rfl
@[simp] theorem State.setTurns_writer (v : List Turn) : (s.setTurns v).writer = s.writer := rfl
@[simp] theorem State.setTurns_handler (v : List Turn) : (s.setTurns v).handler = s.handler := rfl
@[simp] theorem State.setTurns_mem_src (v : List Turn) : (s.setTurns v).mem.src = s.mem.src := rfl
@[simp] theorem State.setTurns_mem_out (v : List Turn) : (s.setTurns v).mem.out = s.mem.out := rfl
@[simp] theorem State.setTurns_mem_inb (v : List Turn) : (s.setTurns v).mem.inb = s.mem.inb := rfl
@[simp] theorem State.setTurns_mem_app (v : List Turn) : (s.setTurns v).mem.app = s.mem.app := rfl
@[simp] theorem State.setTurns_sendLsn (v : List Turn) : (s.setTurns v).sendLsn = s.sendLsn := rfl
@[simp] theorem State.setTurns_appLsn (v : List Turn) : (s.setTurns v).appLsn = s.appLsn := rfl
@[simp] theorem State.setTurns_writerHistory (v : List Turn) : (s.setTurns v).writerHistory = s.writerHistory := rfl
@[simp] theorem State.setTurns_handlerHistory (v : List Turn) : (s.setTurns v).handlerHistory = s.handlerHistory := rfl
@[simp] theorem State.setTurns_answer (v : List Turn) : (s.setTurns v).answer = s.answer := rfl
@[simp] theorem State.setTurns_queues (v : List Turn) : (s.setTurns v).queues = s.queues := rfl
@[simp] theorem State.setTurns_turns (v : List Turn) : (s.setTurns v).turns = v := rfl
@[simp] theorem State.setTurns_mem (v : List Turn) : (s.setTurns v).mem = s.mem := rfl

@[simp] theorem State.gotoW_params (q : WState) : (s.gotoW q).params = s.params := rfl
@[simp] theorem State.gotoW_writer (q : WState) : (s.gotoW q).writer = { s.writer with state := q } := rfl
@[simp] theorem State.gotoW_handler (q : WState) : (s.gotoW q).handler = s.handler := rfl
@[simp] theorem State.gotoW_mem_src (q : WState) : (s.gotoW q).mem.src = s.mem.src := rfl
@[simp] theorem State.gotoW_mem_out (q : WState) : (s.gotoW q).mem.out = s.mem.out := rfl
@[simp] theorem State.gotoW_mem_inb (q : WState) : (s.gotoW q).mem.inb = s.mem.inb := rfl
@[simp] theorem State.gotoW_mem_app (q : WState) : (s.gotoW q).mem.app = s.mem.app := rfl
@[simp] theorem State.gotoW_sendLsn (q : WState) : (s.gotoW q).sendLsn = s.sendLsn := rfl
@[simp] theorem State.gotoW_appLsn (q : WState) : (s.gotoW q).appLsn = s.appLsn := rfl
@[simp] theorem State.gotoW_writerHistory (q : WState) : (s.gotoW q).writerHistory = s.writerHistory := rfl
@[simp] theorem State.gotoW_handlerHistory (q : WState) : (s.gotoW q).handlerHistory = s.handlerHistory := rfl
@[simp] theorem State.gotoW_answer (q : WState) : (s.gotoW q).answer = s.answer := rfl
@[simp] theorem State.gotoW_queues (q : WState) : (s.gotoW q).queues = s.queues := rfl
@[simp] theorem State.gotoW_turns (q : WState) : (s.gotoW q).turns = s.turns := rfl
@[simp] theorem State.gotoW_mem (q : WState) : (s.gotoW q).mem = s.mem := rfl

@[simp] theorem State.gotoH_params (q : HState) : (s.gotoH q).params = s.params := rfl
@[simp] theorem State.gotoH_writer (q : HState) : (s.gotoH q).writer = s.writer := rfl
@[simp] theorem State.gotoH_handler (q : HState) : (s.gotoH q).handler = { s.handler with state := q } := rfl
@[simp] theorem State.gotoH_mem_src (q : HState) : (s.gotoH q).mem.src = s.mem.src := rfl
@[simp] theorem State.gotoH_mem_out (q : HState) : (s.gotoH q).mem.out = s.mem.out := rfl
@[simp] theorem State.gotoH_mem_inb (q : HState) : (s.gotoH q).mem.inb = s.mem.inb := rfl
@[simp] theorem State.gotoH_mem_app (q : HState) : (s.gotoH q).mem.app = s.mem.app := rfl
@[simp] theorem State.gotoH_sendLsn (q : HState) : (s.gotoH q).sendLsn = s.sendLsn := rfl
@[simp] theorem State.gotoH_appLsn (q : HState) : (s.gotoH q).appLsn = s.appLsn := rfl
@[simp] theorem State.gotoH_writerHistory (q : HState) : (s.gotoH q).writerHistory = s.writerHistory := rfl
@[simp] theorem State.gotoH_handlerHistory (q : HState) : (s.gotoH q).handlerHistory = s.handlerHistory := rfl
@[simp] theorem State.gotoH_answer (q : HState) : (s.gotoH q).answer = s.answer := rfl
@[simp] theorem State.gotoH_queues (q : HState) : (s.gotoH q).queues = s.queues := rfl
@[simp] theorem State.gotoH_turns (q : HState) : (s.gotoH q).turns = s.turns := rfl
@[simp] theorem State.gotoH_mem (q : HState) : (s.gotoH q).mem = s.mem := rfl

@[simp] theorem State.respond_params (c : ResponseCode) (d : DataWord) : (s.respond c d).params = s.params := rfl
@[simp] theorem State.respond_writer (c : ResponseCode) (d : DataWord) : (s.respond c d).writer = s.writer := rfl
@[simp] theorem State.respond_handler (c : ResponseCode) (d : DataWord) : (s.respond c d).handler = s.handler := rfl
@[simp] theorem State.respond_mem_src (c : ResponseCode) (d : DataWord) : (s.respond c d).mem.src = s.mem.src := rfl
@[simp] theorem State.respond_mem_out (c : ResponseCode) (d : DataWord) : (s.respond c d).mem.out = s.mem.out := rfl
@[simp] theorem State.respond_mem_inb (c : ResponseCode) (d : DataWord) : (s.respond c d).mem.inb = s.mem.inb := rfl
@[simp] theorem State.respond_mem_app (c : ResponseCode) (d : DataWord) : (s.respond c d).mem.app = s.mem.app := rfl
@[simp] theorem State.respond_sendLsn (c : ResponseCode) (d : DataWord) : (s.respond c d).sendLsn = s.sendLsn := rfl
@[simp] theorem State.respond_appLsn (c : ResponseCode) (d : DataWord) : (s.respond c d).appLsn = s.appLsn := rfl
@[simp] theorem State.respond_writerHistory (c : ResponseCode) (d : DataWord) : (s.respond c d).writerHistory = s.writerHistory := rfl
@[simp] theorem State.respond_handlerHistory (c : ResponseCode) (d : DataWord) : (s.respond c d).handlerHistory = s.handlerHistory := rfl
@[simp] theorem State.respond_answer (c : ResponseCode) (d : DataWord) : (s.respond c d).answer = .response c d := rfl
@[simp] theorem State.respond_queues (c : ResponseCode) (d : DataWord) : (s.respond c d).queues = s.queues := rfl
@[simp] theorem State.respond_turns (c : ResponseCode) (d : DataWord) : (s.respond c d).turns = s.turns := rfl
@[simp] theorem State.respond_mem (c : ResponseCode) (d : DataWord) : (s.respond c d).mem = s.mem := rfl

/-! The compound updates, as single record updates. -/

theorem State.raiseW_eq (e : WriterError) :
    s.raiseW e = { s with writer := { s.writer with lastError := e }, writerHistory := s.writerHistory ++ [e] } := rfl

theorem State.raiseH_eq (e : HandlerError) :
    s.raiseH e = { s with handler := { s.handler with lastError := e }, handlerHistory := s.handlerHistory ++ [e] } :=
  rfl

theorem State.pendH_eq (e : HandlerError) : s.pendH e = { s with handler := { s.handler with pend := e } } := rfl

theorem State.finishFrame_eq :
    s.finishFrame = { s with writer := { s.writer with
      queued := s.writer.queued - 1, triggered := decide (s.writer.queued - 1 ≠ 0), n := 0#4, bidx := 0#4,
      remaining := 0#7, byteIdx := 0#4 } } := rfl

theorem State.perFrameClear_eq :
    s.perFrameClear = { s with handler := { s.handler with
      acc := 0#4, frameN := 0#4, blocks := 0#4, i := 0#3, pend := .none } } := rfl

theorem State.reverseIfOpen_eq :
    s.reverseIfOpen = { s with
      handler := { s.handler with rwOpen := false }
      mem := { s.mem with
        app := if s.handler.rwOpen then { s.mem.app with pending := [], rw := false } else s.mem.app } } := by
  unfold State.reverseIfOpen
  cases h : s.handler.rwOpen
  · cases s with
    | mk p w hd m sl al wh hh a q t => cases hd; cases m; simp_all
  · rfl

theorem State.leaveErrorH_eq :
    s.leaveErrorH = { s with
      handler := { s.handler with
        rwOpen := false, lastError := s.handler.pend, acc := 0#4, frameN := 0#4, blocks := 0#4, i := 0#3,
        pend := .none, state := .idle }
      handlerHistory := s.handlerHistory ++ [s.handler.pend]
      mem := { s.mem with
        app := if s.handler.rwOpen then { s.mem.app with pending := [], rw := false } else s.mem.app } } := by
  unfold State.leaveErrorH
  rw [State.reverseIfOpen_eq]
  rfl

/-- The queues: setting one agent's leaves the others'. -/
theorem Queues.of_set (q : Queues) (a b : Agent) (l : List CommandWord) :
    (q.set a l).of b = if a = b then l else q.of b := by
  cases a <;> cases b <;> rfl

end Sys2Proof.Machine
end

