-- ==== Sys2Proof/Laws/Buffers.lean ====
section
/-!
SUPPORT. What each buffer primitive does (R56 to R63), said once, and that each keeps the buffers' form (R55).
-/

namespace Sys2Proof.Machine

/-! ## Put -/

/-- Everything `Put` can do: a rejected byte changes nothing, an accepted one goes to the back of `pending` while a
reversible write is open and of `contents` otherwise (R56). -/
theorem Buffer.put_cases (cap : Nat) (b : Buffer) (v : Byte) :
    ((b.contents.length + b.pending.length = cap ∨ b.locked = true) ∧ b.put cap v = none) ∨
    (b.contents.length + b.pending.length ≠ cap ∧ b.locked = false ∧ b.rw = true ∧
      b.put cap v = some { b with pending := b.pending ++ [v] }) ∨
    (b.contents.length + b.pending.length ≠ cap ∧ b.locked = false ∧ b.rw = false ∧
      b.put cap v = some { b with contents := b.contents ++ [v] }) := by
  unfold Buffer.put
  by_cases h : b.contents.length + b.pending.length = cap
  · simp [h]
  · cases hl : b.locked <;> cases hr : b.rw <;> simp [h]

theorem Buffer.put_full {cap : Nat} {b : Buffer} (v : Byte)
    (h : b.contents.length + b.pending.length = cap) : b.put cap v = none := by
  simp [Buffer.put, h]

theorem Buffer.put_locked {cap : Nat} {b : Buffer} (v : Byte) (h : b.locked = true) : b.put cap v = none := by
  simp [Buffer.put, h]

theorem Buffer.put_plain {cap : Nat} {b : Buffer} (v : Byte) (h : b.contents.length + b.pending.length < cap)
    (hl : b.locked = false) (hr : b.rw = false) :
    b.put cap v = some { b with contents := b.contents ++ [v] } := by
  simp [Buffer.put, hl, hr, Nat.ne_of_lt h]

theorem Buffer.put_open {cap : Nat} {b : Buffer} (v : Byte) (h : b.contents.length + b.pending.length < cap)
    (hl : b.locked = false) (hr : b.rw = true) :
    b.put cap v = some { b with pending := b.pending ++ [v] } := by
  simp [Buffer.put, hl, hr, Nat.ne_of_lt h]

theorem Buffer.put_fits {cap : Nat} {b b' : Buffer} {v : Byte} (h : b.fits cap = true)
    (hp : b.put cap v = some b') : b'.fits cap = true := by
  simp only [Buffer.fits, decide_eq_true_eq] at *
  rcases Buffer.put_cases cap b v with ⟨-, e⟩ | ⟨hn, -, -, e⟩ | ⟨hn, -, -, e⟩ <;> rw [e] at hp
  · cases hp
  · cases hp; simp; omega
  · cases hp; simp; omega

/-! ## Several bytes -/

/-- Bytes put one by one into a plain buffer: as many as there is room for go to the back, in order. -/
theorem Buffer.putAll_plain (cap : Nat) : ∀ (l : List Byte) (b : Buffer),
    b.contents.length + b.pending.length ≤ cap → b.locked = false → b.rw = false →
    Buffer.putAll cap b l =
      ({ b with contents := b.contents ++ l.take (cap - (b.contents.length + b.pending.length)) },
        l.drop (cap - (b.contents.length + b.pending.length)))
  | [], b, _, _, _ => by cases b; simp [Buffer.putAll]
  | v :: vs, b, h, hl, hr => by
    by_cases hf : b.contents.length + b.pending.length = cap
    · cases b; simp_all [Buffer.putAll, Buffer.put]
    · have hlt : b.contents.length + b.pending.length < cap := by omega
      obtain ⟨k, hk⟩ : ∃ k, cap - (b.contents.length + b.pending.length) = k + 1 :=
        ⟨cap - (b.contents.length + b.pending.length) - 1, by omega⟩
      have hk' : cap - (b.contents.length + 1 + b.pending.length) = k := by omega
      simp only [Buffer.putAll, Buffer.put_plain v hlt hl hr]
      rw [Buffer.putAll_plain cap vs { b with contents := b.contents ++ [v] } (by simp; omega) hl hr]
      simp [hk, hk']

/-- Bytes put one by one while a reversible write is open: as many as there is room for go to `pending`. -/
theorem Buffer.putAll_open (cap : Nat) : ∀ (l : List Byte) (b : Buffer),
    b.contents.length + b.pending.length ≤ cap → b.locked = false → b.rw = true →
    Buffer.putAll cap b l =
      ({ b with pending := b.pending ++ l.take (cap - (b.contents.length + b.pending.length)) },
        l.drop (cap - (b.contents.length + b.pending.length)))
  | [], b, _, _, _ => by cases b; simp [Buffer.putAll]
  | v :: vs, b, h, hl, hr => by
    by_cases hf : b.contents.length + b.pending.length = cap
    · cases b; simp_all [Buffer.putAll, Buffer.put]
    · have hlt : b.contents.length + b.pending.length < cap := by omega
      obtain ⟨k, hk⟩ : ∃ k, cap - (b.contents.length + b.pending.length) = k + 1 :=
        ⟨cap - (b.contents.length + b.pending.length) - 1, by omega⟩
      have hk' : cap - (b.contents.length + (b.pending.length + 1)) = k := by omega
      simp only [Buffer.putAll, Buffer.put_open v hlt hl hr]
      rw [Buffer.putAll_open cap vs { b with pending := b.pending ++ [v] } (by simp; omega) hl hr]
      simp [hk, hk']

/-- What `putAll` does to any buffer: bytes are added at the back of `contents` or of `pending`, and nothing else. -/
theorem Buffer.putAll_cases (cap : Nat) : ∀ (l : List Byte) (b : Buffer),
    ∃ k, (Buffer.putAll cap b l).2 = l.drop k ∧ k ≤ l.length ∧
      ((b.rw = false ∧ (Buffer.putAll cap b l).1 = { b with contents := b.contents ++ l.take k }) ∨
        (b.rw = true ∧ (Buffer.putAll cap b l).1 = { b with pending := b.pending ++ l.take k }))
  | [], b => ⟨0, by cases h : b.rw <;> cases b <;> simp_all [Buffer.putAll]⟩
  | v :: vs, b => by
    rcases Buffer.put_cases cap b v with ⟨-, e⟩ | ⟨-, -, hr, e⟩ | ⟨-, -, hr, e⟩
    · exact ⟨0, by cases h : b.rw <;> cases b <;> simp_all [Buffer.putAll]⟩
    · obtain ⟨k, h1, h2, h3⟩ := Buffer.putAll_cases cap vs { b with pending := b.pending ++ [v] }
      refine ⟨k + 1, ?_, by simpa using h2, ?_⟩
      · simpa [Buffer.putAll, e] using h1
      · simp_all [Buffer.putAll]
    · obtain ⟨k, h1, h2, h3⟩ := Buffer.putAll_cases cap vs { b with contents := b.contents ++ [v] }
      refine ⟨k + 1, ?_, by simpa using h2, ?_⟩
      · simpa [Buffer.putAll, e] using h1
      · simp_all [Buffer.putAll]

theorem Buffer.putAll_fits (cap : Nat) : ∀ (l : List Byte) (b : Buffer), b.fits cap = true →
    (Buffer.putAll cap b l).1.fits cap = true
  | [], b, h => h
  | v :: vs, b, h => by
    cases e : b.put cap v with
    | none => simpa [Buffer.putAll, e] using h
    | some b' => simpa [Buffer.putAll, e] using Buffer.putAll_fits cap vs b' (Buffer.put_fits h e)

/-! ## The other primitives keep a buffer within its capacity -/

theorem Buffer.take_fits {cap : Nat} {b : Buffer} (k : Nat) (h : b.fits cap = true) :
    ({ b with contents := b.contents.drop k } : Buffer).fits cap = true := by
  simp only [Buffer.fits, decide_eq_true_eq, List.length_drop] at *; omega

theorem Buffer.commitRW_fits {cap : Nat} {b : Buffer} (h : b.fits cap = true) : b.commitRW.fits cap = true := by
  simp only [Buffer.fits, Buffer.commitRW, decide_eq_true_eq, List.length_append, List.length_nil] at *; omega

theorem Buffer.reverseRW_fits {cap : Nat} {b : Buffer} (h : b.fits cap = true) : b.reverseRW.fits cap = true := by
  simp [Buffer.fits, Buffer.reverseRW] at *; omega

theorem Buffer.openRW_fits {cap : Nat} {b : Buffer} (h : b.fits cap = true) : b.openRW.fits cap = true := by
  simp [Buffer.fits, Buffer.openRW] at *; omega

theorem Buffer.clear_fits {cap : Nat} {b : Buffer} (h : b.fits cap = true) : b.clear.fits cap = true := by
  simp [Buffer.fits, Buffer.clear] at *; omega

/-- The four buffers' form, clause by clause. -/
theorem Memory.wf_iff (p : Params) (m : Memory) : m.wf p = true ↔
    (m.src.fits p.srcCap = true ∧ m.out.fits p.outCap = true ∧ m.inb.fits p.inCap = true ∧
      m.app.fits p.appCap = true) ∧
    (m.src.pending = [] ∧ m.src.rw = false) ∧ (m.out.pending = [] ∧ m.out.rw = false) ∧
    (m.inb.pending = [] ∧ m.inb.rw = false) ∧ (m.app.rw = true ∨ m.app.pending = []) ∧
    m.out.locked = false ∧ m.inb.locked = false ∧ m.app.locked = false := by
  simp [Memory.wf, Buffer.plain, and_assoc]

/-! ## Every memory operation keeps the form -/

theorem Memory.wf_put_src {p : Params} {m : Memory} {v : Byte} {b : Buffer} (h : m.wf p = true)
    (hb : m.src.put p.srcCap v = some b) : ({ m with src := b } : Memory).wf p = true := by
  have hf := Buffer.put_fits (((Memory.wf_iff p m).1 h).1.1) hb
  rw [Memory.wf_iff] at *
  rcases Buffer.put_cases p.srcCap m.src v with ⟨-, e⟩ | ⟨-, -, hr, e⟩ | ⟨-, -, hr, e⟩ <;> rw [e] at hb <;> cases hb <;>
    simp_all

theorem Memory.wf_put_inb {p : Params} {m : Memory} {v : Byte} {b : Buffer} (h : m.wf p = true)
    (hb : m.inb.put p.inCap v = some b) : ({ m with inb := b } : Memory).wf p = true := by
  have hf := Buffer.put_fits (((Memory.wf_iff p m).1 h).1.2.2.1) hb
  rw [Memory.wf_iff] at *
  rcases Buffer.put_cases p.inCap m.inb v with ⟨-, e⟩ | ⟨-, -, hr, e⟩ | ⟨-, -, hr, e⟩ <;> rw [e] at hb <;> cases hb <;>
    simp_all

theorem Memory.wf_putAll_out {p : Params} {m : Memory} (l : List Byte) (h : m.wf p = true) :
    ({ m with out := (Buffer.putAll p.outCap m.out l).1 } : Memory).wf p = true := by
  have hf := Buffer.putAll_fits p.outCap l m.out (((Memory.wf_iff p m).1 h).1.2.1)
  obtain ⟨k, -, -, hc⟩ := Buffer.putAll_cases p.outCap l m.out
  rw [Memory.wf_iff] at *
  rcases hc with ⟨hr, e⟩ | ⟨hr, e⟩
  · rw [e] at hf ⊢; simp_all
  · simp_all

theorem Memory.wf_putAll_app {p : Params} {m : Memory} (l : List Byte) (h : m.wf p = true) :
    ({ m with app := (Buffer.putAll p.appCap m.app l).1 } : Memory).wf p = true := by
  have hf := Buffer.putAll_fits p.appCap l m.app (((Memory.wf_iff p m).1 h).1.2.2.2)
  obtain ⟨k, -, -, hc⟩ := Buffer.putAll_cases p.appCap l m.app
  rw [Memory.wf_iff] at *
  rcases hc with ⟨hr, e⟩ | ⟨hr, e⟩ <;> rw [e] at hf ⊢ <;> simp_all

theorem Memory.wf_drop_src {p : Params} {m : Memory} (k : Nat) (h : m.wf p = true) :
    ({ m with src := { m.src with contents := m.src.contents.drop k } } : Memory).wf p = true := by
  have hf := Buffer.take_fits k (((Memory.wf_iff p m).1 h).1.1)
  rw [Memory.wf_iff] at *; simp_all

theorem Memory.wf_drop_out {p : Params} {m : Memory} (k : Nat) (h : m.wf p = true) :
    ({ m with out := { m.out with contents := m.out.contents.drop k } } : Memory).wf p = true := by
  have hf := Buffer.take_fits k (((Memory.wf_iff p m).1 h).1.2.1)
  rw [Memory.wf_iff] at *; simp_all

theorem Memory.wf_drop_inb {p : Params} {m : Memory} (k : Nat) (h : m.wf p = true) :
    ({ m with inb := { m.inb with contents := m.inb.contents.drop k } } : Memory).wf p = true := by
  have hf := Buffer.take_fits k (((Memory.wf_iff p m).1 h).1.2.2.1)
  rw [Memory.wf_iff] at *; simp_all

theorem Memory.wf_drop_app {p : Params} {m : Memory} (k : Nat) (h : m.wf p = true) :
    ({ m with app := { m.app with contents := m.app.contents.drop k } } : Memory).wf p = true := by
  have hf := Buffer.take_fits k (((Memory.wf_iff p m).1 h).1.2.2.2)
  rw [Memory.wf_iff] at *; simp_all

theorem Memory.wf_clear_src {p : Params} {m : Memory} (l : Bool) (h : m.wf p = true) :
    ({ m with src := { m.src with contents := [], locked := l } } : Memory).wf p = true := by
  have hf := Buffer.clear_fits (((Memory.wf_iff p m).1 h).1.1)
  have hb : ({ m.src with contents := [], locked := l } : Buffer).fits p.srcCap = true := hf
  rw [Memory.wf_iff] at *; simp_all

theorem Memory.wf_clear_inb {p : Params} {m : Memory} (h : m.wf p = true) :
    ({ m with inb := m.inb.clear } : Memory).wf p = true := by
  have hf := Buffer.clear_fits (((Memory.wf_iff p m).1 h).1.2.2.1)
  rw [Memory.wf_iff] at *; simp_all [Buffer.clear]

theorem Memory.wf_lock_src {p : Params} {m : Memory} (l : Bool) (h : m.wf p = true) :
    ({ m with src := { m.src with locked := l } } : Memory).wf p = true := by
  have hb : ({ m.src with locked := l } : Buffer).fits p.srcCap = true := ((Memory.wf_iff p m).1 h).1.1
  rw [Memory.wf_iff] at *; simp_all

theorem Memory.wf_open_app {p : Params} {m : Memory} (h : m.wf p = true) :
    ({ m with app := m.app.openRW } : Memory).wf p = true := by
  have hf := Buffer.openRW_fits (((Memory.wf_iff p m).1 h).1.2.2.2)
  rw [Memory.wf_iff] at *; simp_all [Buffer.openRW]

theorem Memory.wf_commit_app {p : Params} {m : Memory} (h : m.wf p = true) :
    ({ m with app := m.app.commitRW } : Memory).wf p = true := by
  have hf := Buffer.commitRW_fits (((Memory.wf_iff p m).1 h).1.2.2.2)
  rw [Memory.wf_iff] at *; simp_all [Buffer.commitRW]

theorem Memory.wf_reverse_app {p : Params} {m : Memory} (h : m.wf p = true) :
    ({ m with app := m.app.reverseRW } : Memory).wf p = true := by
  have hf := Buffer.reverseRW_fits (((Memory.wf_iff p m).1 h).1.2.2.2)
  rw [Memory.wf_iff] at *; simp_all [Buffer.reverseRW]

/-- The launch state's buffers are in form. -/
theorem Memory.wf_reset : State.reset.mem.wf State.reset.params = true := by
  simp [Memory.wf, State.reset, Buffer.empty, Buffer.fits, Buffer.plain]

end Sys2Proof.Machine
end

