-- ==== Sys2Proof/Laws/Codec.lean ====
section
/-!
SUPPORT. The codec lane by lane (R94 to R97): what masking records, what demasking restores, and the blocks of a payload.
-/

namespace Sys2Proof.Machine

/-- R94: a masked byte is the raw byte without its high bit. -/
theorem maskedByte_eq (r : Byte) : maskedByte r = r &&& 0x7F#8 := by
  revert r; decide

theorem maskedByte_le (r : Byte) : maskedByte r ≤ 0x7F#8 := by
  revert r; decide

/-- Restoring the recorded high bit gives the raw byte back. -/
theorem maskedByte_restore (r : Byte) :
    (maskedByte r ||| if r.getLsbD 7 then 0x80#8 else 0#8) = r := by
  revert r; decide

/-- R96: mask bit `j` is lane `j`'s high bit; the other two bits are those of `0x80`. -/
theorem maskByte_getLsbD (r : Raw6) :
    (maskByte r).getLsbD 0 = r.b0.getLsbD 7 ∧ (maskByte r).getLsbD 1 = r.b1.getLsbD 7 ∧
    (maskByte r).getLsbD 2 = r.b2.getLsbD 7 ∧ (maskByte r).getLsbD 3 = r.b3.getLsbD 7 ∧
    (maskByte r).getLsbD 4 = r.b4.getLsbD 7 ∧ (maskByte r).getLsbD 5 = r.b5.getLsbD 7 ∧
    (maskByte r).getLsbD 6 = false ∧ (maskByte r).getLsbD 7 = true := by
  have key : ∀ a b c d e f : Bool,
      let m : Byte := 0x80#8 ||| (if a then 1#8 <<< 0 else 0#8) ||| (if b then 1#8 <<< 1 else 0#8) |||
        (if c then 1#8 <<< 2 else 0#8) ||| (if d then 1#8 <<< 3 else 0#8) ||| (if e then 1#8 <<< 4 else 0#8) |||
        (if f then 1#8 <<< 5 else 0#8)
      m.getLsbD 0 = a ∧ m.getLsbD 1 = b ∧ m.getLsbD 2 = c ∧ m.getLsbD 3 = d ∧ m.getLsbD 4 = e ∧ m.getLsbD 5 = f ∧
        m.getLsbD 6 = false ∧ m.getLsbD 7 = true := by decide
  exact key _ _ _ _ _ _

/-- The data bytes of an encoded block are the masked bytes. -/
theorem dataBytes_encodeRaw6 (k : Nat) (r : Raw6) : dataBytes (encodeRaw6 k r) = maskedBytes r := rfl

theorem encodeRaw6_checksum (k : Nat) (r : Raw6) :
    (encodeRaw6 k r).checksum = Config.checksum k (maskedBytes r) := rfl

/-- A list of at most six bytes and its padded block. -/
theorem rawList_pad6 (l : List Byte) (h : l.length ≤ 6) :
    rawList (pad6 l) = l ++ List.replicate (6 - l.length) 0xFF#8 := by
  match l, h with
  | [], _ => rfl
  | [_], _ => rfl
  | [_, _], _ => rfl
  | [_, _, _], _ => rfl
  | [_, _, _, _], _ => rfl
  | [_, _, _, _, _], _ => rfl
  | [_, _, _, _, _, _], _ => rfl

/-- A payload has as many blocks as it is cut into. -/
theorem payloadBlocks_length (k : Nat) : ∀ (n : Nat) (p : List Byte), (payloadBlocks k n p).length = n
  | 0, _ => rfl
  | n + 1, p => by simp [payloadBlocks, payloadBlocks_length k n]

end Sys2Proof.Machine
end

