-- ==== Sys2Proof/Laws/Encoding.lean ====
section
/-!
SUPPORT. The decoders and the encoder, piece by piece: byte classes (R84), the operand of a command word (R86), the fields
of a block (R81).
-/

namespace Sys2Proof

/-- Classifying the byte of a class gives the class back. -/
theorem classify_byte (c : WireClass) : classify c.byte = c := by
  cases c with
  | data d => revert d; decide
  | mask m => revert m; decide
  | sc1 n => revert n; decide
  | sc2 n => revert n; decide
  | ec1 n => revert n; decide
  | ec2 n => revert n; decide

/-- A byte is the byte of its class: classes and bytes are one to one. -/
theorem byte_classify (b : Byte) : (classify b).byte = b := by
  revert b; decide

theorem encode_instr (c : WireClass) : encode c.instr = .wire [c.byte] := by
  cases c <;> rfl

theorem decodeWireByte_byte (c : WireClass) : decodeWireByte c.byte = c.instr := by
  rw [decodeWireByte, classify_byte]

/-- A command word as a number. -/
theorem commandWord_toNat (op arg : Byte) : (commandWord op arg).toNat = op.toNat * 256 + arg.toNat := by
  have e : (commandWord op arg).toNat = op.toNat <<< 8 ||| arg.toNat := BitVec.toNat_append op arg
  rw [e, ← Nat.shiftLeft_add_eq_or_of_lt arg.isLt, Nat.shiftLeft_eq]

/-- The two halves of a command word. -/
theorem commandWord_op (op arg : Byte) : (commandWord op arg).extractLsb' 8 8 = op := by
  apply BitVec.eq_of_toNat_eq
  have h := arg.isLt
  simp only [BitVec.extractLsb'_toNat, commandWord_toNat, Nat.shiftRight_eq_div_pow]
  omega

theorem commandWord_arg (op arg : Byte) : (commandWord op arg).extractLsb' 0 8 = arg := by
  apply BitVec.eq_of_toNat_eq
  have h := arg.isLt
  simp only [BitVec.extractLsb'_toNat, commandWord_toNat, Nat.shiftRight_eq_div_pow]
  omega

/-- A command word is the one built of its halves. -/
theorem commandWord_halves (w : CommandWord) : commandWord (w.extractLsb' 8 8) (w.extractLsb' 0 8) = w := by
  apply BitVec.eq_of_toNat_eq
  have h := w.isLt
  simp only [BitVec.extractLsb'_toNat, commandWord_toNat, Nat.shiftRight_eq_div_pow]
  omega

theorem dataField_byte (d : BitVec 7) : dataField (0#1 ++ d) = .ok d := by
  revert d; decide

theorem maskField_byte (m : BitVec 6) :
    (0b10#2 ++ m : Byte).extractLsb' 6 2 = 0b10#2 ∧ (0b10#2 ++ m : Byte).extractLsb' 0 6 = m := by
  revert m; decide

theorem controlByte_fields (code n : BitVec 4) :
    (controlByte code n).extractLsb' 4 4 = code ∧ (controlByte code n).extractLsb' 0 4 = n := by
  revert code n; decide

/-- The fields of a block's bytes are the block. -/
theorem decodeBlk8_toBlk8 (b : WireBlock) : decodeBlk8 b.toBlk8 = .ok b := by
  simp only [decodeBlk8, WireBlock.toBlk8, dataField_byte, (maskField_byte b.m).1, (maskField_byte b.m).2, if_true]
  rfl

/-- The blocks at the front of a byte string are read back, and the rest is left. -/
theorem decodeBlocks_toList : ∀ (bs : List WireBlock) (rest : List Byte),
    decodeBlocks bs.length ((bs.map WireBlock.toBlk8).flatMap Blk8.toList ++ rest) = .ok (bs, rest)
  | [], rest => rfl
  | b :: bs, rest => by
    have h := decodeBlk8_toBlk8 b
    have ih := decodeBlocks_toList bs rest
    simp only [List.map_cons, List.flatMap_cons, List.length_cons, Blk8.toList, List.cons_append, List.nil_append, decodeBlocks] at ih ⊢
    have e : (⟨b.toBlk8.mask, b.toBlk8.checksum, b.toBlk8.d0, b.toBlk8.d1, b.toBlk8.d2, b.toBlk8.d3, b.toBlk8.d4,
      b.toBlk8.d5⟩ : Blk8) = b.toBlk8 := rfl
    rw [e, h]
    simp only [ih]

/-- R80: a frame of `n` blocks is `4 + 8n` bytes long. -/
theorem frameBytes_length (n : BitVec 4) (bs : List Blk8) : (frameBytes n bs).length = 4 + 8 * bs.length := by
  have h : (bs.flatMap Blk8.toList).length = 8 * bs.length := by
    induction bs with
    | nil => rfl
    | cons b bs ih => simp [Blk8.toList]; simp [Blk8.toList] at ih; omega
  simp [frameBytes, h]; omega

end Sys2Proof
end

