-- ==== Sys2Proof/Laws/PerInstr.lean ====
section
/-!
SUPPORT. One statement per instruction, by constructor: what bits an instruction has.
-/

namespace Sys2Proof.Laws.CommandPort

/-- R86: an instruction that has a command word has the opcode the table gives its mnemonic, in its port's range: writer
`0x01..0x0A`, handler `0x11..0x16`, environment `0x21..0x24`; a wire row has at least one byte. -/
def Statement (i : Instr) : Prop :=
  match encode i with
  | .command w =>
    let op := (w.extractLsb' 8 8 : Byte).toNat
    (0x01 ≤ op ∧ op ≤ 0x0A) ∨ (0x11 ≤ op ∧ op ≤ 0x16) ∨ (0x21 ≤ op ∧ op ≤ 0x24)
  | .wire l => l ≠ []
  | .internal => True

theorem wInit : Statement (.wInit) := by simp [Statement, encode, commandWord_op]
theorem wPoll : Statement (.wPoll) := by simp [Statement, encode, commandWord_op]
theorem wOpen : Statement (.wOpen) := by simp [Statement, encode, commandWord_op]
theorem wWrite (b : Byte) : Statement (.wWrite b) := by simp [Statement, encode, commandWord_op]
theorem wClose : Statement (.wClose) := by simp [Statement, encode, commandWord_op]
theorem wTrigger : Statement (.wTrigger) := by simp [Statement, encode, commandWord_op]
theorem wQcount : Statement (.wQcount) := by simp [Statement, encode, commandWord_op]
theorem wRegout : Statement (.wRegout) := by simp [Statement, encode, commandWord_op]
theorem wReglsn : Statement (.wReglsn) := by simp [Statement, encode, commandWord_op]
theorem wStatus : Statement (.wStatus) := by simp [Statement, encode, commandWord_op]
theorem hInit : Statement (.hInit) := by simp [Statement, encode, commandWord_op]
theorem hPoll : Statement (.hPoll) := by simp [Statement, encode, commandWord_op]
theorem hSubmit (b : Byte) : Statement (.hSubmit b) := by simp [Statement, encode, commandWord_op]
theorem hRegapp : Statement (.hRegapp) := by simp [Statement, encode, commandWord_op]
theorem hReglsn : Statement (.hReglsn) := by simp [Statement, encode, commandWord_op]
theorem hStatus : Statement (.hStatus) := by simp [Statement, encode, commandWord_op]
theorem eOutget : Statement (.eOutget) := by simp [Statement, encode, commandWord_op]
theorem eAppget : Statement (.eAppget) := by simp [Statement, encode, commandWord_op]
theorem eClrapplsn : Statement (.eClrapplsn) := by simp [Statement, encode, commandWord_op]
theorem eClrsendlsn : Statement (.eClrsendlsn) := by simp [Statement, encode, commandWord_op]
theorem wSpin : Statement (.wSpin) := by trivial
theorem codecEncode (raw : List Byte) : Statement (.codecEncode raw) := by trivial
theorem codecDecode (blk : Blk8) : Statement (.codecDecode blk) := by trivial
theorem wireData (d : BitVec 7) : Statement (.wireData d) := by simp [Statement, encode]
theorem wireMask (m : BitVec 6) : Statement (.wireMask m) := by simp [Statement, encode]
theorem wireSc1 (n : BitVec 4) : Statement (.wireSc1 n) := by simp [Statement, encode]
theorem wireSc2 (n : BitVec 4) : Statement (.wireSc2 n) := by simp [Statement, encode]
theorem wireEc1 (n : BitVec 4) : Statement (.wireEc1 n) := by simp [Statement, encode]
theorem wireEc2 (n : BitVec 4) : Statement (.wireEc2 n) := by simp [Statement, encode]
theorem frame (n : BitVec 4) (blocks : List WireBlock) : Statement (.frame n blocks) := by simp [Statement, encode, frameBytes]
theorem block (b : WireBlock) : Statement (.block b) := by simp [Statement, encode, Blk8.toList]

end Sys2Proof.Laws.CommandPort
end

