-- ==== Sys2Proof/Laws/Step.lean ====
section
/-!
SUPPORT. What the shared operations of the meanings and the step can do, said once: the ports' guards (R101, R136), the
emission of a block (R121), a control byte (R151), a byte taken from `IN` (R145), and the step itself (R15, R183).
-/

namespace Sys2Proof.Machine

/-! ## Guards -/

/-- A next state behind the writer port's guards is a hold, or the command's own. -/
theorem writerPort_next {whileBusy : Bool} {s t : State} {k : Host.Outcome State Fault Refusal}
    (h : writerPort whileBusy s k = .next t) :
    s.writer.initialized = true ∧
      ((s.writer.busy = true ∧ whileBusy = false ∧ t = s.setAnswer .held) ∨
        ((s.writer.busy = false ∨ whileBusy = true) ∧ k = .next t)) := by
  unfold writerPort at h
  split at h
  · cases h
  · split at h
    · cases h; simp_all
    · refine ⟨by simp_all, .inr ⟨?_, h⟩⟩
      cases hb : s.writer.busy <;> simp_all

theorem writerPort_ready {whileBusy : Bool} {s : State} (k : Host.Outcome State Fault Refusal)
    (hi : s.writer.initialized = true) (hb : s.writer.busy = false) : writerPort whileBusy s k = k := by
  simp [writerPort, hi, hb]

/-- A next state behind the handler port's guard is the command's own. -/
theorem handlerPort_next {s t : State} {k : Host.Outcome State Fault Refusal} (h : handlerPort s k = .next t) :
    s.handler.initialized = true ∧ k = .next t := by
  unfold handlerPort at h
  split at h
  · cases h
  · exact ⟨by simp_all, h⟩

theorem handlerPort_ready {s : State} (k : Host.Outcome State Fault Refusal) (hi : s.handler.initialized = true) :
    handlerPort s k = k := by
  simp [handlerPort, hi]

/-! ## Emission -/

/-- Everything `W_EMIT` can do: some `k` of the bytes left are put; if not all were, the writer is busy, otherwise the block
is counted and the state left. -/
theorem emitBlock_cases (s : State) :
    ∃ k, k ≤ (s.writer.enc.toList.drop s.writer.byteIdx.toNat).length ∧
      (Buffer.putAll s.params.outCap s.mem.out (s.writer.enc.toList.drop s.writer.byteIdx.toNat)).2 =
        (s.writer.enc.toList.drop s.writer.byteIdx.toNat).drop k ∧
      let out := (Buffer.putAll s.params.outCap s.mem.out (s.writer.enc.toList.drop s.writer.byteIdx.toNat)).1
      ((k < (s.writer.enc.toList.drop s.writer.byteIdx.toNat).length ∧
          emitBlock s = (s.setOut out).setWriter
            { s.writer with byteIdx := s.writer.byteIdx + BitVec.ofNat 4 k, busy := true }) ∨
        (k = (s.writer.enc.toList.drop s.writer.byteIdx.toNat).length ∧
          emitBlock s = (s.setOut out).setWriter
            { s.writer with
              byteIdx := s.writer.byteIdx + BitVec.ofNat 4 k, busy := false, bidx := s.writer.bidx + 1#4
              state := if s.writer.bidx + 1#4 < s.writer.n then .initBlock else .unlockBuffer })) := by
  obtain ⟨k, h2, hk, -⟩ :=
    Buffer.putAll_cases s.params.outCap (s.writer.enc.toList.drop s.writer.byteIdx.toNat) s.mem.out
  refine ⟨k, hk, h2, ?_⟩
  simp only [emitBlock, State.setOut_writer]
  generalize s.writer.enc.toList.drop s.writer.byteIdx.toNat = rest at h2 hk ⊢
  generalize Buffer.putAll s.params.outCap s.mem.out rest = p at h2 ⊢
  obtain ⟨out, left⟩ := p
  simp only at h2
  subst h2
  by_cases hlt : k < rest.length
  · left
    refine ⟨hlt, ?_⟩
    obtain ⟨v, vs, e⟩ : ∃ v vs, rest.drop k = v :: vs := List.exists_cons_of_ne_nil (by simpa using hlt)
    have hl : rest.length - (rest.drop k).length = k := by simp; omega
    simp only [hl]
    simp only [e]
  · have e : k = rest.length := by omega
    subst e
    right
    refine ⟨rfl, ?_⟩
    simp only [List.drop_length, List.length_nil, Nat.sub_zero]
    rfl

/-! ## Bytes from `IN` -/

/-- Everything a control code can do to the handler's registers before its own rule: it is ORed into the accumulator; an
illegal value is left for `CheckFinal`, a code already seen is an error, any other is judged by its rule. -/
theorem ctrl_cases (k : Nat) (accept : State → State) (s : State) :
    let new := s.handler.acc ||| (1#4 <<< k)
    let s' := s.setHandler { s.handler with acc := new }
    (accLegal new = false ∧ ctrl k accept s = s') ∨
    (accLegal new = true ∧ new = s.handler.acc ∧ ctrl k accept s = repeatedCode k s.handler.acc s') ∨
    (accLegal new = true ∧ new ≠ s.handler.acc ∧ ctrl k accept s = accept s') := by
  simp only [ctrl]
  by_cases h : accLegal (s.handler.acc ||| 1#4 <<< k) = false
  · exact .inl ⟨h, by simp [h]⟩
  · by_cases e : s.handler.acc ||| 1#4 <<< k = s.handler.acc
    · exact .inr (.inl ⟨by simpa using h, e, by simp only [if_neg h, if_pos e]⟩)
    · exact .inr (.inr ⟨by simpa using h, e, by simp only [if_neg h, if_neg e]⟩)

/-- A repeated code is an error and nothing else. -/
theorem repeatedCode_cases (k : Nat) (old : BitVec 4) (s : State) :
    ∃ e : HandlerError, e ≠ .none ∧ repeatedCode k old s = s.pendH e := by
  unfold repeatedCode
  split
  · exact ⟨_, by decide, rfl⟩
  · split <;> exact ⟨_, by decide, rfl⟩

/-- A next state of a wire byte's row is the byte taken at `GetByte`, or a hold. -/
theorem takenFromIn_next {b : Byte} {take : State → State} {s t : State} (h : takenFromIn b take s = .next t) :
    s.handler.initialized = true ∧
      ((s.handler.state = .getByte ∧ s.mem.inb.contents.head? = some b ∧ t = take s) ∨ t = s.setAnswer .held) := by
  unfold takenFromIn at h
  split at h
  · cases h
  · split at h
    · rename_i hs; cases h; exact ⟨by simp_all, .inl ⟨hs.1, hs.2, rfl⟩⟩
    · cases h; exact ⟨by simp_all, .inr rfl⟩

/-- A payload byte's row, besides: the block phase on it. -/
theorem takenOrCollected_next {b : Byte} {take : State → State} {s t : State}
    (h : takenOrCollected b take s = .next t) :
    s.handler.initialized = true ∧
      ((s.handler.state = .handleBlock ∧ s.handler.cur = b ∧ t = pollHandleBlock s) ∨
        (s.handler.state = .getByte ∧ s.mem.inb.contents.head? = some b ∧ t = take s) ∨ t = s.setAnswer .held) := by
  unfold takenOrCollected at h
  split at h
  · rename_i hs; cases h; exact ⟨hs.1, .inl ⟨hs.2.1, hs.2.2, rfl⟩⟩
  · have := takenFromIn_next h
    exact ⟨this.1, .inr this.2⟩

/-! ## The step -/

/-- Everything a step that goes on can do. -/
theorem step_cases {s t : State} (h : step s = .next t) :
    (s.turns = [] ∧ t = s) ∨
    (∃ rest, s.turns = .spin :: rest ∧ exec .wSpin (s.setTurns rest) = .next t) ∨
    (∃ a rest, s.turns = .command a :: rest ∧ s.queues.of a = [] ∧ t = s.setTurns rest) ∨
    (∃ a rest w ws i u, s.turns = .command a :: rest ∧ s.queues.of a = w :: ws ∧ decodeCommand w = .ok i ∧
      exec i (s.setTurns rest) = .next u ∧
      ((u.answer = .held ∧ t = u) ∨ (u.answer ≠ .held ∧ t = u.retire a))) := by
  cases ht : s.turns with
  | nil => simp only [step, ht] at h; cases h; exact .inl ⟨rfl, rfl⟩
  | cons turn rest =>
    cases turn with
    | spin => exact .inr (.inl ⟨rest, rfl, by simpa only [step, ht] using h⟩)
    | command a =>
      simp only [step, ht] at h
      cases hq : s.queues.of a with
      | nil => simp only [hq] at h; cases h; exact .inr (.inr (.inl ⟨a, rest, rfl, hq, rfl⟩))
      | cons w ws =>
        simp only [hq] at h
        cases hd : decodeCommand w with
        | error e => simp only [hd] at h; cases h
        | ok i =>
          simp only [hd] at h
          cases e : exec i (s.setTurns rest) with
          | next u =>
            simp only [e, afterCommand] at h
            refine .inr (.inr (.inr ⟨a, rest, w, ws, i, u, rfl, hq, hd, e, ?_⟩))
            split at h
            · cases h; exact .inl ⟨‹_›, rfl⟩
            · cases h; exact .inr ⟨‹_›, rfl⟩
          | fault f => cases f
          | refused r => simp only [e, afterCommand] at h; cases h

end Sys2Proof.Machine
end

