-- ==== Sys2Proof/Tests/Slice0.lean ====
section
/-!
SUPPORT. Tests. Expected values are from spec/95_test_vectors.md (each test names its vector), the encoding tables of R84
and R86, or hand calculation from the rule named. Then one witness for every statement that has hypotheses: a state and
operands that meet them together, clause by clause at a boundary value.
-/

namespace Sys2Proof.Tests

open Sys2Proof.Machine

/-! ## Small states -/

/-- State B of 95_test_vectors.md, with its capacities. -/
def booted : State :=
  { State.reset with
    params := ⟨128, 256, 256, 256, 8, 0⟩
    writer := { State.reset.writer with initialized := true, regOut := true, regLsn := true }
    handler := { State.reset.handler with initialized := true, regApp := true, regLsn := true } }

/-- State B with the writer in a state, with a count and a position. -/
def writerAt (q : WState) (n bidx byteIdx : BitVec 4) : State :=
  booted.setWriter { booted.writer with state := q, n := n, bidx := bidx, byteIdx := byteIdx, triggered := true }

/-- A spinning writer. -/
def spinning : State :=
  booted.setWriter { booted.writer with state := .emitBlockBytes, busy := true, n := 1#4, byteIdx := 2#4 }

/-- State B with the handler in a state, with an accumulator and the bytes of `IN`. -/
def handlerAt (q : HState) (acc : BitVec 4) (inb : List Byte) : State :=
  (booted.setHandler { booted.handler with state := q, acc := acc }).setIn ⟨inb, [], false, false⟩

/-- A handler within a frame of `n` blocks, `blocks` of them in, at byte `i` of the next, with `cur` to collect. -/
def collecting (n blocks : BitVec 4) (i : BitVec 3) (cur : Byte) : State :=
  (booted.setHandler { booted.handler with
    state := .handleBlock, acc := 3#4, frameN := n, blocks := blocks, i := i, cur := cur, rwOpen := true }).setApp
    ⟨[], [], true, false⟩

/-- The state an outcome goes on in. -/
def after (o : Host.Outcome State Fault Refusal) : Option State :=
  match o with
  | .next t => some t
  | .fault _ => none
  | .refused _ => none

/-- The reason an outcome is refused for. -/
def refusal (o : Host.Outcome State Fault Refusal) : Option Refusal :=
  match o with
  | .next _ => none
  | .fault _ => none
  | .refused r => some r

/-- What an instruction answers. -/
def answer (i : Instr) (s : State) : Option Answer := (after (exec i s)).map State.answer

/-- The writer after an instruction. -/
def writer (i : Instr) (s : State) : Option Writer := (after (exec i s)).map State.writer

/-- The handler after an instruction. -/
def handler (i : Instr) (s : State) : Option Handler := (after (exec i s)).map State.handler

/-! ## Ill-formed terms are refused -/

theorem test_wf_encode_empty : (Instr.codecEncode []).wf = false := by decide
theorem test_wf_encode_seven : (Instr.codecEncode [1#8, 2#8, 3#8, 4#8, 5#8, 6#8, 7#8]).wf = false := by decide
theorem test_wf_decode_mask_class : (Instr.codecDecode ⟨0x4A#8, 0#8, 0#8, 0#8, 0#8, 0#8, 0#8, 0#8⟩).wf = false := by decide
theorem test_wf_decode_checksum_class :
    (Instr.codecDecode ⟨0x8A#8, 0x80#8, 0#8, 0#8, 0#8, 0#8, 0#8, 0#8⟩).wf = false := by decide
theorem test_wf_decode_data_class :
    (Instr.codecDecode ⟨0x8A#8, 0#8, 0x80#8, 0#8, 0#8, 0#8, 0#8, 0#8⟩).wf = false ∧
    (Instr.codecDecode ⟨0x8A#8, 0#8, 0#8, 0x80#8, 0#8, 0#8, 0#8, 0#8⟩).wf = false ∧
    (Instr.codecDecode ⟨0x8A#8, 0#8, 0#8, 0#8, 0x80#8, 0#8, 0#8, 0#8⟩).wf = false ∧
    (Instr.codecDecode ⟨0x8A#8, 0#8, 0#8, 0#8, 0#8, 0x80#8, 0#8, 0#8⟩).wf = false ∧
    (Instr.codecDecode ⟨0x8A#8, 0#8, 0#8, 0#8, 0#8, 0#8, 0x80#8, 0#8⟩).wf = false ∧
    (Instr.codecDecode ⟨0x8A#8, 0#8, 0#8, 0#8, 0#8, 0#8, 0#8, 0x80#8⟩).wf = false := by decide
theorem test_wf_frame_zero : (Instr.frame 0#4 []).wf = false := by decide
theorem test_wf_frame_count : (Instr.frame 2#4 [⟨0#6, 0#8, 0#7, 0#7, 0#7, 0#7, 0#7, 0#7⟩]).wf = false := by decide

/-! ## Decoding, word by word (R86) -/

theorem test_decode_writer_port :
    [0b0000000100000000, 0b0000001000000000, 0b0000001100000000, 0b0000010001000001, 0b0000010100000000,
      0b0000011000000000, 0b0000011100000000, 0b0000100000000000, 0b0000100100000000,
      0b0000101000000000].map (decodeTableWord 16) =
    [some .wInit, some .wPoll, some .wOpen, some (.wWrite 0x41#8), some .wClose, some .wTrigger, some .wQcount,
      some .wRegout, some .wReglsn, some .wStatus] := by decide

theorem test_decode_handler_port :
    [0b0001000100000000, 0b0001001000000000, 0b0001001111000001, 0b0001010000000000, 0b0001010100000000,
      0b0001011000000000].map (decodeTableWord 16) =
    [some .hInit, some .hPoll, some (.hSubmit 0xC1#8), some .hRegapp, some .hReglsn, some .hStatus] := by decide

theorem test_decode_environment_port :
    [0b0010000100000000, 0b0010001000000000, 0b0010001100000000, 0b0010010000000000].map (decodeTableWord 16) =
    [some .eOutget, some .eAppget, some .eClrapplsn, some .eClrsendlsn] := by decide

/-- WC14, WC15, HC5, EV8 and the ends of R88's reserved ranges. -/
theorem test_decode_reserved :
    [0x0301, 0x0B00, 0x1601, 0x2101, 0x0000, 0x1000, 0x1700, 0x2000, 0x2500, 0xFF00].map (decodeTableWord 16) =
    [none, none, none, none, none, none, none, none, none, none] := by decide

/-- R84, the ends of every class. -/
theorem test_decode_wire_bytes :
    [0b00000000, 0b01111111, 0b10000000, 0b10111111, 0b11000000, 0b11001111, 0b11010000, 0b11011111, 0b11100000,
      0b11101111, 0b11110000, 0b11111111].map (decodeTableWord 8) =
    [some (.wireData 0#7), some (.wireData 0x7F#7), some (.wireMask 0#6), some (.wireMask 0x3F#6), some (.wireSc1 0#4),
      some (.wireSc1 15#4), some (.wireSc2 0#4), some (.wireSc2 15#4), some (.wireEc1 0#4), some (.wireEc1 15#4),
      some (.wireEc2 0#4), some (.wireEc2 15#4)] := by decide

/-- E1's block, first byte lowest. -/
theorem test_decode_block : decodeTableWord 64 0x017F00007F41408A =
    some (.block ⟨0b001010#6, 0x40#8, 0x41#7, 0x7F#7, 0#7, 0#7, 0x7F#7, 1#7⟩) := by decide

/-- E1's frame, first byte lowest. -/
theorem test_decode_frame : decodeTableWord 96 0xF1E1017F00007F41408AD1C1 =
    some (.frame 1#4 [⟨0b001010#6, 0x40#8, 0x41#7, 0x7F#7, 0#7, 0#7, 0x7F#7, 1#7⟩]) := by decide

/-- A frame whose end codes carry another count, and one without a block, are none (R79). -/
theorem test_decode_bad_frames :
    decodeTableWord 96 0xF2E1017F00007F41408AD1C1 = none ∧ decodeTableWord 32 0xF0E0D0C0 = none := by decide

/-- The rows without a command word have no encoding (R122, R94, R97). -/
theorem test_decode_internal : encode .wSpin = .internal ∧ encode (.codecEncode [1#8]) = .internal ∧
    encode (.codecDecode ⟨0x80#8, 0#8, 0#8, 0#8, 0#8, 0#8, 0#8, 0#8⟩) = .internal := by decide

/-- R91: `SEND [41]` is the words `0x0300 0x0441 0x0500`. -/
theorem test_send_words : (sendLines [0x41#8]).flatMap AsmLine.words = [0x0300#16, 0x0441#16, 0x0500#16] := by decide

/-- R91, P3: `FEED`, and R90's repetition. -/
theorem test_feed_words : (feedLines [0xC1#8, 0xD1#8]).flatMap AsmLine.words = [0x13C1#16, 0x13D1#16] ∧
    (AsmLine.mk 3 .wPoll "").words = [0x0200#16, 0x0200#16, 0x0200#16] := by decide

/-! ## Writer port (95_test_vectors.md 3.2) -/

/-- WC1. -/
theorem test_write_not_open :
    answer (.wWrite 0x41#8) booted = some (.response .notOpen 0#32) ∧
    (after (exec (.wWrite 0x41#8) booted)).map (fun t => t.writerHistory.map WriterError.code) = some [2#3] := by decide

/-- WC2: the status word after `W.OPEN`. -/
theorem test_open_status : (after (exec .wOpen booted)).map writerStatus = some 0x00000010#32 := by decide

/-- WC3. -/
theorem test_open_twice : answer .wOpen (booted.setWriter { booted.writer with composing := true }) =
    some (.response .alreadyOpen 0#32) := by decide

/-- WC10: the fifth byte into four places. -/
theorem test_write_full :
    (let s := (booted.setWriter { booted.writer with composing := true }).setSrc
      ⟨[0#8, 1#8, 2#8, 3#8], [], false, false⟩
     (after (exec (.wWrite 4#8) { s with params := ⟨4, 256, 256, 256, 8, 0⟩ })).map writerStatus) =
      some 0x00000510#32 := by decide

/-- WC16: the counter saturates at 255 for `Q_W = 8`. -/
theorem test_close_saturates : (writer .wClose (booted.setWriter { booted.writer with composing := true, queued := 255 })).map
    Writer.queued = some 255 := by decide

/-- WC5. -/
theorem test_close_arms : (writer .wClose (booted.setWriter { booted.writer with composing := true })).map
    (fun w => (w.composing, w.queued, w.triggered)) = some (false, 1, true) := by decide

/-- WC6. -/
theorem test_trigger_twice : answer .wTrigger (booted.setWriter { booted.writer with triggered := true }) =
    some (.response .alreadyTriggered 0#32) := by decide

/-- WC9. -/
theorem test_trigger_arms : (writer .wTrigger booted).map (fun w => (w.triggered, w.queued)) = some (true, 0) := by decide

/-- WC8. -/
theorem test_qcount : answer .wQcount (booted.setWriter { booted.writer with queued := 1 }) =
    some (.response .ok 1#32) := by decide

/-- WC12. -/
theorem test_regout_refused : refusal (exec .wRegout (writerAt .emitStart1 1#4 0#4 0#4)) = some .writerNotIdle := by decide

theorem test_registrations : (writer .wRegout State.reset).isNone ∧
    (writer .wReglsn (booted.setWriter { booted.writer with regLsn := false })).map Writer.regLsn = some true := by decide

/-- WC13. -/
theorem test_open_uninitialized : refusal (exec .wOpen State.reset) = some .writerNotInitialized := by decide

/-- WC17, RS3. -/
theorem test_busy_holds : answer .wOpen spinning = some .held ∧ answer .wInit spinning = some .held := by decide

/-- WC18: the status word of a writer that spins at byte 2 of block 0 of 1 (as WP7's, untriggered and unlocked). -/
theorem test_status_while_busy : answer .wStatus spinning = some (.response .ok 0x00201048#32) := by decide

/-- RS1: `W.INIT` at power-on; the registrations stay 0. -/
theorem test_winit : (writer .wInit State.reset).map (fun w => (w.initialized, w.regOut, w.regLsn)) =
    some (true, false, false) := by decide

/-! ## Writer poll (3.3) -/

/-- WP1, poll 3. -/
theorem test_poll_lock : (after (exec .wPoll (writerAt .lockBuffer 0#4 0#4 0#4))).map writerStatus =
    some 0x000000A3#32 := by decide

/-- WP1, poll 4, and the count in the two ways into `Reset`: a sent frame's (WP1, the poll after `E.CLRSENDLSN`), and 0 after
an empty snapshot (P6, step 5). -/
theorem test_poll_count :
    (after (exec .wPoll ((writerAt .computeBlockCount 0#4 0#4 0#4).setSrc
      ⟨[0x41#8, 0xFF#8, 0#8, 0x80#8, 0x7F#8, 1#8], [], false, true⟩))).map writerStatus = some 0x000010A4#32 ∧
    (after (exec .wPoll (writerAt .waitAck 1#4 1#4 8#4))).map writerStatus = some 0x0081102E#32 ∧
    (after (exec .wPoll ((writerAt .computeBlockCount 0#4 0#4 0#4).setSrc ⟨[], [], false, true⟩))).map writerStatus =
      some 0x0000002E#32 := by decide

/-- WP1, polls 5 and 12. -/
theorem test_poll_control :
    (after (exec .wPoll (writerAt .emitStart1 1#4 0#4 0#4))).map (fun t => t.mem.out.contents) = some [0xC1#8] ∧
    (after (exec .wPoll (writerAt .emitEnd2 1#4 1#4 8#4))).map (fun t => (t.mem.out.contents, writerStatus t)) =
      some ([0xF1#8], 0x0081102C#32) := by decide

/-- WP12: the raw block of the one-byte payload `33`, and its mask `BE`. -/
theorem test_poll_fill :
    (writer .wPoll (((writerAt .fillBlock 1#4 0#4 0#4).setSrc ⟨[0x33#8], [], false, true⟩).setWriter
      { (writerAt .fillBlock 1#4 0#4 0#4).writer with remaining := 1#7 })).map
      (fun w => (w.raw, w.enc.mask, w.enc.d0, w.enc.d1, w.remaining)) =
    some (⟨0x33#8, 0xFF#8, 0xFF#8, 0xFF#8, 0xFF#8, 0xFF#8⟩, 0xBE#8, 0x33#8, 0x7F#8, 0#7) := by decide

/-- The block of E1 with `XOR6`'s checksum, in the encoded register. -/
def e1Block : Blk8 := ⟨0x8A#8, 0x40#8, 0x41#8, 0x7F#8, 0#8, 0#8, 0x7F#8, 1#8⟩

/-- Its fields. -/
def e1Wire : WireBlock := ⟨0b001010#6, 0x40#8, 0x41#7, 0x7F#7, 0#7, 0#7, 0x7F#7, 1#7⟩

/-- WP7, WP8: `OUT` of four places; the writer after its poll with two bytes of the block out, and after a `W.SPIN` that
found four places. -/
def wp7 (byteIdx : BitVec 4) (busy : Bool) (out : List Byte) : State :=
  { ((booted.setWriter { booted.writer with
      state := .emitBlockBytes, triggered := true, n := 1#4, byteIdx := byteIdx, busy := busy, enc := e1Block }).setOut
      ⟨out, [], false, false⟩).setSrc ⟨[], [], false, true⟩ with params := ⟨128, 4, 256, 256, 8, 0⟩ }

theorem test_poll_splits : (after (exec .wPoll (wp7 0#4 false [0xC1#8, 0xD1#8]))).map
    (fun t => (writerStatus t, t.mem.out.contents)) =
    some (0x002010E8#32, [0xC1#8, 0xD1#8, 0x8A#8, 0x40#8]) := by decide

theorem test_spin_goes_on : (after (exec .wSpin (wp7 2#4 true []))).map (fun t => (writerStatus t, t.mem.out.contents)) =
    some (0x006010E8#32, [0x41#8, 0x7F#8, 0#8, 0#8]) := by decide

/-- WP9. -/
theorem test_spin_ends : (after (exec .wSpin (wp7 6#4 true [0#8, 0#8]))).map
    (fun t => (writerStatus t, t.mem.out.contents)) =
    some (0x008110A9#32, [0#8, 0#8, 0x7F#8, 1#8]) := by decide

/-- WP1, poll 9, as the row `BLOCK`. -/
theorem test_block : (after (exec (.block e1Wire)
    ((wp7 0#4 false []).setOut ⟨[], [], false, false⟩ |> fun s => { s with params := booted.params }))).map
    (fun t => (writerStatus t, t.mem.out.contents)) =
    some (0x008110A9#32, [0x8A#8, 0x40#8, 0x41#8, 0x7F#8, 0#8, 0#8, 0x7F#8, 1#8]) := by decide

/-- A block the writer does not stand before is not enabled. -/
theorem test_block_held : answer (.block e1Wire) booted = some .held := by decide

/-- E1's payload, snapshot taken: the writer stands before its frame (WP1, poll 4). -/
def e1Ready : State :=
  ((writerAt .emitStart1 1#4 0#4 0#4).setSrc ⟨[0x41#8, 0xFF#8, 0#8, 0x80#8, 0x7F#8, 1#8], [], false, true⟩).setWriter
    { (writerAt .emitStart1 1#4 0#4 0#4).writer with remaining := 6#7 }

/-- E1's block "for every `CHECKSUM`". -/
def e1Any : WireBlock :=
  ⟨0b001010#6, Config.checksum 0 ⟨0x41#8, 0x7F#8, 0#8, 0#8, 0x7F#8, 1#8⟩, 0x41#7, 0x7F#7, 0#7, 0#7, 0x7F#7, 1#7⟩

theorem e1_at_frame : atFrame 1#4 [e1Any] e1Ready := ⟨rfl, rfl, rfl, rfl, by decide, rfl⟩

/-- E1, WP1 polls 5 to 12, as the row `FRAME`: `C1 D1 8A c 41 7F 00 00 7F 01 E1 F1` for every `CHECKSUM`. -/
theorem test_frame : (after (exec (.frame 1#4 [e1Any]) e1Ready)).map (fun t => (t.mem.out.contents, writerStatus t)) =
    some ([0xC1#8, 0xD1#8, 0x8A#8, Config.checksum 0 ⟨0x41#8, 0x7F#8, 0#8, 0#8, 0x7F#8, 1#8⟩, 0x41#8, 0x7F#8, 0#8, 0#8,
      0x7F#8, 1#8, 0xE1#8, 0xF1#8], 0x0081102C#32) := by
  have h : ¬ e1Ready.writer.initialized = false := by decide
  rw [exec, execFrame, if_neg h, if_pos e1_at_frame]
  rfl

/-! ## Codec (3.1, for every `CHECKSUM`) -/

/-- CV7: `ENCODE([10])`. -/
theorem test_encode_pads : answer (.codecEncode [0x10#8]) booted = some (.encoded
    ⟨0xBE#8, Config.checksum 0 ⟨0x10#8, 0x7F#8, 0x7F#8, 0x7F#8, 0x7F#8, 0x7F#8⟩, 0x10#8, 0x7F#8, 0x7F#8, 0x7F#8, 0x7F#8,
      0x7F#8⟩) := by rfl

/-- CV6: `ENCODE([C1 D1 E1 F1 00 7F])`. -/
theorem test_encode_control_values :
    answer (.codecEncode [0xC1#8, 0xD1#8, 0xE1#8, 0xF1#8, 0#8, 0x7F#8]) booted = some (.encoded
    ⟨0x8F#8, Config.checksum 0 ⟨0x41#8, 0x51#8, 0x61#8, 0x71#8, 0#8, 0x7F#8⟩, 0x41#8, 0x51#8, 0x61#8, 0x71#8, 0#8,
      0x7F#8⟩) := by rfl

/-- CV15, with the matching checksum. -/
theorem test_decode_mask_flip :
    answer (.codecDecode ⟨0x8B#8, Config.checksum 0 ⟨0x41#8, 0x7F#8, 0#8, 0#8, 0x7F#8, 1#8⟩, 0x41#8, 0x7F#8, 0#8, 0#8,
      0x7F#8, 1#8⟩) booted = some (.decoded ⟨0xC1#8, 0xFF#8, 0#8, 0x80#8, 0x7F#8, 1#8⟩) := by
  simp [answer, after, exec, execCodecDecode, decodeBlock, dataBytes, demaskedBytes, demaskedByte, booted]

/-- CV12: another checksum byte than the matching one. -/
theorem test_decode_mismatch (c : Byte) (h : c ≠ Config.checksum 0 ⟨0x41#8, 0x7F#8, 0#8, 0#8, 0x7F#8, 1#8⟩) :
    answer (.codecDecode ⟨0x8A#8, c, 0x41#8, 0x7F#8, 0#8, 0#8, 0x7F#8, 1#8⟩) booted = some .checksumMismatch := by
  simp [answer, after, exec, execCodecDecode, decodeBlock, dataBytes, booted, Ne.symm h]

/-! ## Handler port (3.4) and environment (3.6) -/

/-- HC2, third byte. -/
theorem test_submit_full :
    (after (exec (.hSubmit 0x8A#8) { handlerAt .idle 0#4 [0xC1#8, 0xD1#8] with params := ⟨128, 256, 2, 256, 8, 0⟩ })).map
      (fun t => (t.answer, handlerStatus t, t.mem.inb.contents)) =
    some (.response .bufferFull 0#32, 0x00000200#32, [0xC1#8, 0xD1#8]) := by decide

/-- HC1. -/
theorem test_submit : (after (exec (.hSubmit 0xC1#8) booted)).map (fun t => t.mem.inb.contents) = some [0xC1#8] := by decide

/-- HC3, HC4. -/
theorem test_handler_refusals : refusal (exec .hRegapp (handlerAt .waitForBytes 0#4 [])) = some .handlerNotIdle ∧
    refusal (exec (.hSubmit 0#8) State.reset) = some .handlerNotInitialized := by decide

theorem test_hreglsn : (handler .hReglsn (booted.setHandler { booted.handler with regLsn := false })).map
    Handler.regLsn = some true := by decide

/-- HC6. -/
theorem test_hstatus : answer .hStatus booted = some (.response .ok 0#32) := by decide

/-- RS2: an open frame at `H.INIT`; the committed byte and `AppLsn` stay. -/
theorem test_hinit :
    (after (exec .hInit { (collecting 1#4 0#4 3#3 0#8).setApp ⟨[9#8], [1#8, 2#8], true, false⟩ with appLsn := true })).map
      (fun t => (handlerStatus t, t.mem.app, t.appLsn, t.handler.regApp)) =
    some (0#32, ⟨[9#8], [], false, false⟩, true, true) := by decide

/-- EV1, EV2. -/
theorem test_outget :
    answer .eOutget (booted.setOut ⟨[0xC1#8, 0xD1#8], [], false, false⟩) = some (.response .ok 0xC1#32) ∧
    answer .eOutget State.reset = some (.response .ok 0x100#32) := by decide

/-- EV4: pending bytes are not readable. -/
theorem test_appget_pending : answer .eAppget (booted.setApp ⟨[], [0x41#8], true, false⟩) =
    some (.response .ok 0x100#32) := by decide

/-- EV5, EV6. -/
theorem test_clear_flags :
    (after (exec .eClrapplsn { booted with appLsn := true })).map State.appLsn = some false ∧
    (after (exec .eClrsendlsn { booted with sendLsn := true })).map State.sendLsn = some false := by decide

/-! ## Frame reception (3.5) -/

/-- The handler inside a frame of one block, its byte `b` at the front of `IN`. -/
def taking (acc n blocks : BitVec 4) (b : Byte) : State :=
  let s := handlerAt .getByte acc [b]
  (s.setHandler { s.handler with frameN := n, blocks := blocks, rwOpen := decide (acc = 3#4 ∨ acc = 7#4) }).setApp
    ⟨[], [], decide (acc = 3#4 ∨ acc = 7#4), false⟩

/-- FR1, polls 3 and 6. -/
theorem test_start_codes :
    (after (exec (.wireSc1 1#4) (taking 0#4 0#4 0#4 0xC1#8))).map handlerStatus = some 0x00010014#32 ∧
    (after (exec (.wireSc2 1#4) (taking 1#4 1#4 0#4 0xD1#8))).map handlerStatus = some 0x0001003C#32 := by decide

/-- FR1, polls 41 and 44. -/
theorem test_end_codes :
    (after (exec (.wireEc1 1#4) (taking 3#4 1#4 1#4 0xE1#8))).map handlerStatus = some 0x0001107C#32 ∧
    (after (exec (.wireEc2 1#4) (taking 7#4 1#4 1#4 0xF1#8))).map handlerStatus = some 0x000110FC#32 := by decide

/-- FR12 (a count of zero), FR20 (`SC1` after `SC2`): the pending error. -/
theorem test_sc1_errors :
    (handler (.wireSc1 0#4) (taking 0#4 0#4 0#4 0xC0#8)).map Handler.pend = some .unexpectedControlByte ∧
    (handler (.wireSc1 1#4) (taking 3#4 1#4 0#4 0xC1#8)).map Handler.pend = some .markerOutOfPositionSequence := by decide

/-- FR11 (`SC2` twice), FR13 (another count). -/
theorem test_sc2_errors :
    (handler (.wireSc2 1#4) (taking 3#4 1#4 0#4 0xD1#8)).map Handler.pend = some .reentrantBlock ∧
    (handler (.wireSc2 2#4) (taking 1#4 1#4 0#4 0xD2#8)).map Handler.pend = some .unexpectedControlByte := by decide

/-- FR5 (a block short), FR25 (out of order: the accumulator is 5 and no error is pending yet). -/
theorem test_ec1_errors :
    (handler (.wireEc1 2#4) (taking 3#4 2#4 1#4 0xE2#8)).map Handler.pend = some .blockIndexOutOfBounds ∧
    (handler (.wireEc1 1#4) (taking 1#4 1#4 0#4 0xE1#8)).map (fun h => (h.acc, h.pend)) = some (5#4, .none) := by decide

/-- FR17, FR23. -/
theorem test_ec2_errors :
    (handler (.wireEc2 2#4) (taking 7#4 1#4 1#4 0xF2#8)).map Handler.pend = some .unexpectedControlByte ∧
    (handler (.wireEc2 1#4) (taking 0#4 0#4 0#4 0xF1#8)).map (fun h => (h.acc, h.pend)) = some (8#4, .none) := by decide

/-- FR10 and FR14: a data byte outside a frame. -/
theorem test_data_outside :
    (handler (.wireData 0x41#7) (taking 1#4 1#4 0#4 0x41#8)).map Handler.pend = some .start1WithoutStart2 ∧
    (handler (.wireData 0x41#7) (taking 0#4 0#4 0#4 0x41#8)).map Handler.pend = some .unexpectedControlByte := by decide

/-- FR8: a data byte where a block must start. -/
theorem test_data_stuffing : (handler (.wireData 0x40#7) (collecting 1#4 0#4 0#3 0x40#8)).map
    (fun h => (h.pend, h.state)) = some (.excessiveStuffing, .processError) := by decide

/-- FR4 (a mask byte after the last block), FR27 (one within a block starts it again). -/
theorem test_mask :
    (handler (.wireMask 10#6) (collecting 1#4 1#4 0#3 0x8A#8)).map (fun h => (h.pend, h.state)) =
      some (.blockIndexOutOfBounds, .processError) ∧
    (handler (.wireMask 10#6) (collecting 1#4 0#4 3#3 0x8A#8)).map (fun h => (h.blk.mask, h.i, h.pend)) =
      some (0x8A#8, 1#3, .none) := by decide

/-- FR33. -/
theorem test_hpoll_unregistered : (after (exec .hPoll (booted.setHandler { booted.handler with regApp := false }))).map
    handlerStatus = some 0x00000100#32 := by decide

/-- FR1, polls 38 and 45 (the eighth byte with the matching checksum; the commit). -/
theorem test_commit :
    (let s := (booted.setHandler { booted.handler with
      state := .checkFinal, acc := 15#4, frameN := 1#4, blocks := 1#4, rwOpen := true }).setApp
      ⟨[], [0x41#8, 0xFF#8, 0#8, 0x80#8, 0x7F#8, 1#8], true, false⟩
     (after (exec .hPoll s)).map (fun t => (handlerStatus t, t.mem.app.contents, t.appLsn))) =
    some (0x000110F5#32, [0x41#8, 0xFF#8, 0#8, 0x80#8, 0x7F#8, 1#8], true) := by decide

/-! ## The step and the host's placing of an instruction -/

/-- R86, R192: the first step after reset with `W.INIT`, `H.INIT` and `E.OUTGET` placed runs them (RS1, EV7); `W.POLL` placed
there is refused (R192). -/
theorem test_first_step :
    (after (step (State.reset.withFetchWord 16 0x0100))).map (fun t => t.writer.initialized) = some true ∧
    (after (step (State.reset.withFetchWord 16 0x1100))).map (fun t => t.handler.initialized) = some true ∧
    (after (step (State.reset.withFetchWord 16 0x2100))).map State.answer = some (.response .ok 0x100#32) ∧
    refusal (step (State.reset.withFetchWord 16 0x0200)) = some .writerNotInitialized := by decide

/-- A wire byte placed is taken by the first step (R145): FR1, poll 3. -/
theorem test_first_step_wire : (after (step (State.reset.withFetchWord 8 0xC1))).map handlerStatus =
    some 0x00010014#32 := by decide

/-- R183: the agents that issue the commands; `H.SUBMIT` (`0x13`) is the transport's. -/
theorem test_agents : [0x0100#16, 0x0A00#16, 0x1100#16, 0x1200#16, 0x13C1#16, 0x1600#16, 0x2100#16, 0x2200#16, 0x2300#16,
      0x2400#16].map agentOf =
    [.writer, .writer, .handler, .handler, .transport, .handler, .transport, .consumer, .consumer, .consumer] := by decide

/-- R9: `Q_W` is 8 where no other width is chosen. -/
theorem test_default_qw : ({ srcCap := 1, outCap := 1, inCap := 1, appCap := 1, checksumId := 0 } : Params).qw = 8 := by
  decide

/-- A held command stays with its agent, any other has been issued (R15). -/
theorem test_step_queues :
    (after (step (spinning.issueNext .writer 0x0300#16))).map (fun t => t.queues.writer) = some [0x0300#16] ∧
    (after (step (booted.issueNext .writer 0x0300#16))).map (fun t => t.queues.writer) = some [] := by decide

/-! ## Witnesses

`witness_<Name>` meets the hypotheses of `Obligations.<Name>`, each of its clauses in turn. -/

theorem witness_DecodeOfEncodeIsTheInstruction :
    (Instr.frame 1#4 [e1Wire]).wf = true ∧ encode (.frame 1#4 [e1Wire]) ≠ .internal ∧
    (Instr.wWrite 0xFF#8).wf = true ∧ encode (.wWrite 0xFF#8) ≠ .internal ∧
    (Instr.block e1Wire).wf = true ∧ encode (.block e1Wire) ≠ .internal := by decide

theorem witness_EncodeOfDecodedBitsIsTheBits :
    decode (.command 0x13FF#16) = .ok (.hSubmit 0xFF#8) ∧ decode (.wire [0xFF#8]) = .ok (.wireEc2 15#4) ∧
    decode (.wire e1Block.toList) = .ok (.block e1Wire) := ⟨rfl, rfl, rfl⟩

theorem witness_ByteClassesAreTheTables :
    ([0x00#8, 0x7F#8] : List Byte).all (fun b => b.toNat ≤ 0x7F) ∧
    ([0x80#8, 0xBF#8] : List Byte).all (fun b => 0x80 ≤ b.toNat ∧ b.toNat ≤ 0xBF) ∧
    ([0xC0#8, 0xCF#8] : List Byte).all (fun b => 0xC0 ≤ b.toNat ∧ b.toNat ≤ 0xCF) ∧
    ([0xD0#8, 0xDF#8] : List Byte).all (fun b => 0xD0 ≤ b.toNat ∧ b.toNat ≤ 0xDF) ∧
    ([0xE0#8, 0xEF#8] : List Byte).all (fun b => 0xE0 ≤ b.toNat ∧ b.toNat ≤ 0xEF) ∧
    ([0xF0#8, 0xFF#8] : List Byte).all (fun b => 0xF0 ≤ b.toNat) := by decide

theorem witness_ReservedWordsAreRefused (w : CommandWord) :
    (booted.issueNext .writer w).turns = .command .writer :: [] ∧
    (booted.issueNext .writer w).queues.of .writer = w :: [] := ⟨rfl, rfl⟩

theorem witness_ReservedWordsAreRefused_clauses :
    (reservedOp 0x00 ∧ reservedOp 0x0B ∧ reservedOp 0x10 ∧ reservedOp 0x17 ∧ reservedOp 0x20 ∧ reservedOp 0x25 ∧
      reservedOp 0xFF) ∧
    (¬ reservedOp 0x01 ∧ ¬ reservedOp 0x0A ∧ ¬ reservedOp 0x11 ∧ ¬ reservedOp 0x16 ∧ ¬ reservedOp 0x21 ∧
      ¬ reservedOp 0x24) := by
  simp [reservedOp]

theorem witness_StepRunsTheDecodedCommand :
    (spinning.issueNext .writer 0x0200#16).turns = .command .writer :: [] ∧
    (spinning.issueNext .writer 0x0200#16).queues.of .writer = 0x0200#16 :: [] ∧
    decodeCommand 0x0200#16 = .ok .wPoll ∧
    (∃ t, exec .wPoll { spinning.issueNext .writer 0x0200#16 with turns := [] } = .next t ∧ t.answer = .held) ∧
    (∃ t, exec .wPoll { booted.issueNext .writer 0x0200#16 with turns := [] } = .next t ∧ t.answer ≠ .held) ∧
    (∃ r, exec .wPoll { State.reset.issueNext .writer 0x0200#16 with turns := [] } = .refused r) :=
  ⟨rfl, rfl, rfl, ⟨_, rfl, rfl⟩, ⟨_, rfl, by decide⟩, ⟨_, rfl⟩⟩

theorem witness_StepRunsTheDecodedCommand_other :
    ({ spinning with turns := [.spin] } : State).turns = .spin :: [] ∧
    ({ booted with turns := [.command .consumer] } : State).turns = .command .consumer :: [] ∧
    ({ booted with turns := [.command .consumer] } : State).queues.of .consumer = [] ∧ booted.turns = [] :=
  ⟨rfl, rfl, rfl, rfl⟩

theorem witness_InstructionsLeaveAgentsAndParameters : ∃ t, exec .wOpen booted = .next t := ⟨_, rfl⟩

theorem witness_UninitializedUnitsRefuse :
    State.reset.writer.initialized = false ∧ State.reset.handler.initialized = false := by decide

theorem witness_WInitResetsTheWriter : State.reset.writer.busy = false ∧ spinning.writer.busy = true := by decide

theorem witness_BusyWriterHoldsItsPort : spinning.writer.initialized = true ∧ spinning.writer.busy = true := by decide

/-- Also for the other statements about commands of a writer that does not spin. -/
theorem witness_WOpenStartsComposing :
    booted.writer.initialized = true ∧ booted.writer.busy = false ∧ booted.writer.composing = false ∧
    (booted.setWriter { booted.writer with composing := true }).writer.composing = true := by decide

/-- `SRC` locked; full at its capacity; one byte short of it. -/
theorem witness_WWriteAppendsOrRejects :
    (let s := booted.setWriter { booted.writer with composing := true }
     let locked := s.setSrc ⟨[], [], false, true⟩
     let full : State := { s.setSrc ⟨[1#8], [], false, false⟩ with params := ⟨1, 1, 1, 1, 1, 0⟩ }
     let room : State := { s.setSrc ⟨[], [], false, false⟩ with params := ⟨1, 1, 1, 1, 1, 0⟩ }
     booted.writer.composing = false ∧
     (locked.writer.initialized = true ∧ locked.writer.busy = false ∧ locked.writer.composing = true ∧
       locked.mem.src.locked = true) ∧
     (full.writer.initialized = true ∧ full.writer.busy = false ∧ full.writer.composing = true ∧
       full.mem.src.contents.length + full.mem.src.pending.length = full.params.srcCap) ∧
     (room.writer.initialized = true ∧ room.writer.busy = false ∧ room.writer.composing = true ∧
       room.mem.src.locked = false ∧ room.mem.src.rw = false ∧
       room.mem.src.contents.length + room.mem.src.pending.length < room.params.srcCap)) := by decide

theorem witness_WCloseQueuesAndArms :
    (let s := booted.setWriter { booted.writer with composing := true, queued := 255 }
     s.writer.initialized = true ∧ s.writer.busy = false ∧ s.writer.composing = true ∧
       booted.writer.composing = false) := by decide

theorem witness_WTriggerArmsOnce :
    (let s := booted.setWriter { booted.writer with triggered := true }
     s.writer.initialized = true ∧ s.writer.busy = false ∧ s.writer.triggered = true ∧
       booted.writer.triggered = false) := by decide

theorem witness_WQcountObservesTheCounter :
    (let s := booted.setWriter { booted.writer with queued := 2 ^ 32 - 1 }
     s.writer.initialized = true ∧ s.writer.queued < 2 ^ 32) := by decide

theorem witness_WStatusAnswersTheFields : spinning.writer.initialized = true := by decide

theorem witness_WriterRegistersInIdleOnly :
    booted.writer.initialized = true ∧ booted.writer.busy = false ∧ booted.writer.state = .idle ∧
    (writerAt .waitForTrigger 0#4 0#4 0#4).writer.state ≠ .idle := by decide

theorem witness_WPollWaitsThenLocks :
    booted.writer.initialized = true ∧ booted.writer.busy = false ∧ booted.writer.state = .idle ∧
    (writerAt .waitForTrigger 0#4 0#4 0#4).writer.state = .waitForTrigger ∧
    (writerAt .lockBuffer 0#4 0#4 0#4).writer.state = .lockBuffer := by decide

/-- 91 bytes, none, one and 90. -/
theorem witness_WPollComputesTheBlockCount :
    (let s (k : Nat) := (writerAt .computeBlockCount 0#4 0#4 0#4).setSrc ⟨List.replicate k 0#8, [], false, true⟩
     (s 91).writer.state = .computeBlockCount ∧ 90 < (s 91).mem.src.contents.length ∧
     (s 0).mem.src.contents.length = 0 ∧ 0 < (s 1).mem.src.contents.length ∧
     (s 90).mem.src.contents.length ≤ 90) := by decide

/-- `OUT` full, and with one place. -/
theorem witness_WPollEmitsControlBytes :
    (let s : State := { (writerAt .emitEnd2 15#4 15#4 8#4).setOut ⟨[1#8], [], false, false⟩ with
       params := ⟨1, 1, 1, 1, 1, 0⟩ }
     let t : State := { writerAt .emitStart1 1#4 0#4 0#4 with params := ⟨1, 1, 1, 1, 1, 0⟩ }
     (s.writer.initialized = true ∧ s.writer.busy = false ∧ s.writer.state = .emitEnd2 ∧
       s.mem.out.contents.length + s.mem.out.pending.length = s.params.outCap) ∧
     (t.writer.initialized = true ∧ t.writer.busy = false ∧ t.writer.state = .emitStart1 ∧
       t.mem.out.contents.length + t.mem.out.pending.length < t.params.outCap ∧ t.mem.out.locked = false ∧
       t.mem.out.rw = false)) := by decide

theorem witness_WPollFillsABlock :
    (let s := (writerAt .fillBlock 1#4 0#4 0#4).setSrc ⟨[1#8], [], false, true⟩
     let t := s.setWriter { s.writer with remaining := 1#7 }
     t.writer.initialized = true ∧ t.writer.busy = false ∧ t.writer.state = .fillBlock ∧
       t.writer.remaining.toNat ≤ t.mem.src.contents.length ∧
       (writerAt .initBlock 1#4 0#4 0#4).writer.state = .initBlock) := by decide

/-- `OUT` full to its last place, and empty. -/
theorem witness_WPollAndWSpinEmitTheBlock :
    ([wp7 0#4 false [1#8, 2#8, 3#8, 4#8], wp7 0#4 false [], wp7 6#4 true [1#8, 2#8, 3#8, 4#8]] : List State).all
      (fun s => s.mem.out.locked = false ∧ s.mem.out.rw = false ∧ s.mem.out.pending = [] ∧
        s.mem.out.contents.length ≤ s.params.outCap ∧ s.writer.initialized = true ∧
        s.writer.state = .emitBlockBytes) = true ∧
    (wp7 0#4 false []).writer.busy = false ∧ (wp7 6#4 true []).writer.busy = true := by decide

theorem witness_WPollEndsTheFrame :
    (writerAt .reset 1#4 1#4 8#4).writer.initialized = true ∧ (writerAt .reset 1#4 1#4 8#4).writer.busy = false ∧
    ∀ q ∈ ([.unlockBuffer, .signalListener, .waitAck, .reset, .processError] : List WState),
      (writerAt q 1#4 1#4 8#4).writer.state = q := by decide

/-- `OUT` with exactly eight places. -/
theorem witness_BlockIsWhatTheWriterEmits :
    (let s : State := { wp7 0#4 false [] with params := ⟨1, 8, 1, 1, 1, 0⟩ }
     s.writer.initialized = true ∧ atBlock e1Wire s ∧ s.mem.out.locked = false ∧ s.mem.out.rw = false ∧
       s.mem.out.contents.length + s.mem.out.pending.length + 8 ≤ s.params.outCap) := by decide

/-- `OUT` with exactly twelve places. -/
theorem witness_FrameIsEmittedWhole :
    FrameReady { e1Ready with params := ⟨6, 12, 1, 1, 1, 0⟩ } 1#4 [e1Any] :=
  ⟨rfl, ⟨rfl, rfl, rfl, rfl, by decide, rfl⟩, rfl, rfl, by decide⟩

theorem witness_PollsSendExactlyTheFrame :
    FrameReady { e1Ready with params := ⟨6, 12, 1, 1, 1, 0⟩, answer := .response .ok 0#32 } 1#4 [e1Any] ∧
    ({ e1Ready with params := ⟨6, 12, 1, 1, 1, 0⟩, answer := .response .ok 0#32 } : State).answer = .response .ok 0#32 :=
  ⟨⟨rfl, ⟨rfl, rfl, rfl, rfl, by decide, rfl⟩, rfl, rfl, by decide⟩, rfl⟩

/-- An idle, armed writer with `k` bytes in `SRC`. -/
def armedWith (k : Nat) : State :=
  (writerAt .idle 0#4 0#4 0#4).setSrc ⟨List.replicate k 1#8, [], false, false⟩

/-- 1 byte and 90 bytes; 124 places are what 90 bytes need. -/
theorem witness_WriterSendsThePayload :
    ([1, 90] : List Nat).all (fun k =>
      let s : State := { armedWith k with params := ⟨90, 124, 1, 1, 1, 0⟩ }
      s.writer.initialized = true ∧ s.writer.busy = false ∧ s.writer.state = .idle ∧ s.writer.regOut = true ∧
      s.writer.regLsn = true ∧ s.writer.triggered = true ∧ s.mem.out.locked = false ∧ s.mem.out.rw = false ∧
      1 ≤ s.mem.src.contents.length ∧ s.mem.src.contents.length ≤ 90 ∧
      s.mem.out.contents.length + s.mem.out.pending.length + (4 + 8 * ((s.mem.src.contents.length + 5) / 6)) ≤
        s.params.outCap) = true := by decide

/-- No byte and 91 bytes. -/
theorem witness_EmptyOrOversizedPayloadSendsNothing :
    ([0, 91] : List Nat).all (fun k =>
      let s := armedWith k
      s.writer.initialized = true ∧ s.writer.busy = false ∧ s.writer.state = .idle ∧ s.writer.regOut = true ∧
      s.writer.regLsn = true ∧ s.writer.triggered = true ∧
      (s.mem.src.contents.length = 0 ∨ 90 < s.mem.src.contents.length)) = true := by decide

/-- One byte and six; none and seven. -/
theorem witness_EncodeMasksAndChecksums :
    (1 ≤ [0x10#8].length ∧ [0x10#8].length ≤ 6) ∧
    (1 ≤ (List.replicate 6 0xFF#8).length ∧ (List.replicate 6 0xFF#8).length ≤ 6) ∧
    (([] : List Byte).length = 0 ∧ 6 < (List.replicate 7 0xFF#8).length) := by decide

/-- E1's block with the matching checksum, whatever the function. -/
def e1Good : Blk8 := { e1Block with checksum := Config.checksum 0 ⟨0x41#8, 0x7F#8, 0#8, 0#8, 0x7F#8, 1#8⟩ }

theorem e1Good_decodes : decodeBlock 0 e1Good = some ⟨0x41#8, 0xFF#8, 0#8, 0x80#8, 0x7F#8, 1#8⟩ := by
  simp [decodeBlock, e1Good, e1Block, dataBytes, demaskedBytes, demaskedByte]

theorem witness_DecodeChecksAndDemasks :
    Config.checksum 0 ⟨e1Good.d0, e1Good.d1, e1Good.d2, e1Good.d3, e1Good.d4, e1Good.d5⟩ = e1Good.checksum ∧
    ∃ b : Blk8, Config.checksum 0 ⟨b.d0, b.d1, b.d2, b.d3, b.d4, b.d5⟩ ≠ b.checksum := by
  have h : ∀ c : Byte, c ≠ c ^^^ 1#8 := by decide
  exact ⟨rfl, { e1Good with checksum := e1Good.checksum ^^^ 1#8 }, h e1Good.checksum⟩

theorem witness_CodecRoundTrip : 1 ≤ [0x87#8].length ∧ [0x87#8].length ≤ 6 := by decide

/-- R92's properties are properties some function has: the spec's stand-in `XOR6` is 7-bit clean on 7-bit-clean bytes and
changes with one changed bit. (`CHECKSUM` itself has no body: a claim takes `CS7` or `CSSBE`
of the instance's function as a premise.) -/
def xor6 (d : Raw6) : Byte := d.b0 ^^^ d.b1 ^^^ d.b2 ^^^ d.b3 ^^^ d.b4 ^^^ d.b5

theorem witness_CS7 (d : Raw6) (h0 : d.b0 ≤ 0x7F#8) (h1 : d.b1 ≤ 0x7F#8) (h2 : d.b2 ≤ 0x7F#8) (h3 : d.b3 ≤ 0x7F#8)
    (h4 : d.b4 ≤ 0x7F#8) (h5 : d.b5 ≤ 0x7F#8) : xor6 d ≤ 0x7F#8 := by
  have bit : ∀ a : Byte, a ≤ 0x7F#8 ↔ a.getLsbD 7 = false := by decide
  rw [bit] at *
  simp only [xor6, BitVec.getLsbD_xor, h0, h1, h2, h3, h4, h5]
  rfl

theorem witness_CSSBE (d e : Raw6) (h : d.differInOneBit e) : xor6 d ≠ xor6 e := by
  obtain ⟨k, h⟩ := h
  have bit : ∀ (k : Fin 8) (a : Byte), a ≠ a ^^^ (1#8 <<< k.val) := by decide
  have key : xor6 e = xor6 d ^^^ (1#8 <<< k.val) := by
    rcases h with rfl | rfl | rfl | rfl | rfl | rfl <;> simp only [xor6] <;> ac_rfl
  rw [key]
  exact bit k _

theorem witness_EncodedBlockHasItsClasses : 1 ≤ (List.replicate 6 0x80#8).length ∧
    (List.replicate 6 0x80#8).length ≤ 6 := by decide

theorem witness_MaskCorruptionIsUndetected :
    (∃ r, decodeBlock 0 e1Good = some r) ∧ blockByte e1Good 5 ≤ 0x7F#8 ∧ blockByte e1Good 1 ≤ 0x7F#8 ∧
    (1 : Fin 6) ≠ 5 := ⟨⟨_, e1Good_decodes⟩, by decide, by decide, by decide⟩

/-- A changed checksum byte, and bit 6 of data byte 0 changed. -/
theorem witness_SingleBitFlipsAreDetected :
    (∃ r, decodeBlock 0 e1Good = some r) ∧ (∃ c : Byte, c ≠ e1Good.checksum) ∧
    (∀ j : Fin 6, blockByte e1Good j ≤ 0x7F#8) ∧
    (dataBytes e1Good).differInOneBit ⟨0x01#8, 0x7F#8, 0#8, 0#8, 0x7F#8, 1#8⟩ ∧
    (∀ j : Fin 6, rawByte ⟨0x01#8, 0x7F#8, 0#8, 0#8, 0x7F#8, 1#8⟩ j ≤ 0x7F#8) := by
  have h : ∀ c : Byte, c ^^^ 1#8 ≠ c := by decide
  exact ⟨⟨_, e1Good_decodes⟩, ⟨_, h e1Good.checksum⟩, by decide, ⟨6, .inl rfl⟩, by decide⟩

/-- `IN` full, and with one place. -/
theorem witness_HSubmitPutsOrLosesTheByte :
    (let s : State := { handlerAt .idle 0#4 [1#8] with params := ⟨1, 1, 1, 1, 1, 0⟩ }
     let t : State := { handlerAt .idle 0#4 [] with params := ⟨1, 1, 1, 1, 1, 0⟩ }
     (s.handler.initialized = true ∧ s.mem.inb.contents.length + s.mem.inb.pending.length = s.params.inCap) ∧
     (t.handler.initialized = true ∧ t.mem.inb.contents.length + t.mem.inb.pending.length < t.params.inCap ∧
       t.mem.inb.locked = false ∧ t.mem.inb.rw = false)) := by decide

theorem witness_HandlerRegistersInIdleOnly :
    booted.handler.initialized = true ∧ booted.handler.state = .idle ∧
    (handlerAt .waitForBytes 0#4 []).handler.state ≠ .idle := by decide

theorem witness_HStatusAnswersTheFields : booted.handler.initialized = true := by decide

theorem witness_HPollLeavesIdleWhenRegistered :
    booted.handler.initialized = true ∧ booted.handler.state = .idle ∧ booted.handler.regApp = true ∧
    booted.handler.regLsn = true ∧
    (booted.setHandler { booted.handler with regApp := false }).handler.regApp = false := by decide

theorem witness_HPollWaitsAndResets :
    ∀ q ∈ ([.waitForBytes, .getByte, .waitProcessed, .completeReset] : List HState),
      (handlerAt q 0#4 []).handler.initialized = true ∧ (handlerAt q 0#4 []).handler.state = q ∧
      (handlerAt q 0#4 []).mem.inb.contents = [] := by decide

theorem witness_HPollRunsTheWireByte :
    ((handlerAt .getByte 3#4 [0xFF#8]).handler.state = .getByte ∧
      (handlerAt .getByte 3#4 [0xFF#8]).mem.inb.contents.head? = some 0xFF#8) ∧
    ((collecting 1#4 0#4 0#3 0xBF#8).handler.initialized = true ∧
      (collecting 1#4 0#4 0#3 0xBF#8).handler.state = .handleBlock ∧
      (collecting 1#4 0#4 0#3 0xBF#8).handler.cur = 0xBF#8 ∧ (0xBF#8 : Byte).toNat < 0xC0) ∧
    ((handlerAt .getByte 3#4 []).handler.state = .getByte ∧ (handlerAt .getByte 3#4 []).mem.inb.contents = []) := by
  decide

/-- The bytes `7F` and `80`; the accumulator `STARTED`, `PRESTART`, and two other values. -/
theorem witness_PayloadByteIsRouted :
    (Instr.wireData 0x7F#7 = .wireData 0x7F#7 ∧ (0x7F#8 : Byte).toNat = (0x7F#7).toNat) ∧
    (Instr.wireMask 0#6 = .wireMask 0#6 ∧ (0x80#8 : Byte).toNat = 0x80 + (0#6).toNat) ∧
    (handlerAt .getByte 3#4 [0x7F#8]).mem.inb.contents = 0x7F#8 :: [] ∧
    (handlerAt .getByte 3#4 [0x7F#8]).handler.acc = 3#4 ∧ (handlerAt .getByte 1#4 [0x80#8]).handler.acc = 1#4 ∧
    (handlerAt .getByte 0#4 [0x80#8]).handler.acc ≠ 3#4 ∧ (handlerAt .getByte 7#4 [0x80#8]).handler.acc ≠ 1#4 := by
  decide

/-- Counts 0, 15, equal and different. -/
theorem witness_StartCodesAreAccepted :
    ((taking 0#4 0#4 0#4 0xCF#8).handler.initialized = true ∧ (taking 0#4 0#4 0#4 0xCF#8).handler.state = .getByte ∧
      (taking 0#4 0#4 0#4 0xCF#8).mem.inb.contents = 0xCF#8 :: [] ∧ (0xCF#8 : Byte).toNat = 0xC0 + (15#4).toNat ∧
      (taking 0#4 0#4 0#4 0xCF#8).handler.acc = 0#4 ∧ (0xC0#8 : Byte).toNat = 0xC0 + (0#4).toNat) ∧
    ((taking 1#4 15#4 0#4 0xDF#8).handler.acc = 1#4 ∧ (0xDF#8 : Byte).toNat = 0xD0 + (15#4).toNat ∧
      15#4 = (taking 1#4 15#4 0#4 0xDF#8).handler.frameN ∧ 14#4 ≠ (taking 1#4 15#4 0#4 0xDF#8).handler.frameN) := by
  decide

/-- All blocks in; a block short; another count. -/
theorem witness_EndCodesAreAccepted :
    ((taking 3#4 15#4 15#4 0xEF#8).handler.initialized = true ∧
      (taking 3#4 15#4 15#4 0xEF#8).handler.state = .getByte ∧
      (taking 3#4 15#4 15#4 0xEF#8).mem.inb.contents = 0xEF#8 :: [] ∧ (0xEF#8 : Byte).toNat = 0xE0 + (15#4).toNat ∧
      (taking 3#4 15#4 15#4 0xEF#8).handler.acc = 3#4 ∧ (taking 3#4 15#4 15#4 0xEF#8).handler.frameN = 15#4 ∧
      (taking 3#4 15#4 15#4 0xEF#8).handler.blocks = 15#4 ∧ (taking 3#4 15#4 15#4 0xEF#8).handler.i = 0#3) ∧
    (taking 3#4 15#4 14#4 0xEF#8).handler.blocks ≠ (taking 3#4 15#4 14#4 0xEF#8).handler.frameN ∧
    ((taking 7#4 15#4 15#4 0xFF#8).handler.acc = 7#4 ∧ (0xFF#8 : Byte).toNat = 0xF0 + (15#4).toNat ∧
      14#4 ≠ (taking 7#4 15#4 15#4 0xFF#8).handler.frameN) := by decide

/-- EndCode2 at `NONE` gives 8, an illegal value; StartCode1 at `PRESTART` and at `PREFINISH` repeats. -/
theorem witness_ControlCodesOutOfPlace :
    (0xF1#8 : Byte).toNat = 0xC0 + 16 * (3 : Fin 4).val + (1#4).toNat ∧
    (taking 0#4 0#4 0#4 0xF1#8).handler.state = .getByte ∧
    (taking 0#4 0#4 0#4 0xF1#8).mem.inb.contents = 0xF1#8 :: [] ∧
    accLegal (taking 0#4 0#4 0#4 0xF1#8).handler.acc = true ∧ accLegal (0#4 ||| 1#4 <<< 3) = false ∧
    (0xC1#8 : Byte).toNat = 0xC0 + 16 * (0 : Fin 4).val + (1#4).toNat ∧
    (1#4 ||| 1#4 <<< 0) = (taking 1#4 1#4 0#4 0xC1#8).handler.acc ∧
    (7#4 ||| 1#4 <<< 0) = (taking 7#4 1#4 1#4 0xC1#8).handler.acc := by decide

/-- All 15 blocks in, and 14. -/
theorem witness_MaskByteStartsABlock :
    ((collecting 15#4 15#4 0#3 0xBF#8).handler.initialized = true ∧
      (collecting 15#4 15#4 0#3 0xBF#8).handler.state = .handleBlock ∧
      (collecting 15#4 15#4 0#3 0xBF#8).handler.cur.toNat = 0x80 + (0x3F#6).toNat ∧
      (collecting 15#4 15#4 0#3 0xBF#8).handler.pend = .none ∧
      (collecting 15#4 15#4 0#3 0xBF#8).handler.blocks = (collecting 15#4 15#4 0#3 0xBF#8).handler.frameN) ∧
    (collecting 15#4 14#4 0#3 0xBF#8).handler.blocks ≠ (collecting 15#4 14#4 0#3 0xBF#8).handler.frameN := by decide

/-- The first, the second and the seventh byte of a block. -/
theorem witness_DataByteIsCollected :
    ((collecting 1#4 0#4 0#3 0x7F#8).handler.initialized = true ∧
      (collecting 1#4 0#4 0#3 0x7F#8).handler.state = .handleBlock ∧
      (collecting 1#4 0#4 0#3 0x7F#8).handler.cur.toNat = (0x7F#7).toNat ∧
      (collecting 1#4 0#4 0#3 0x7F#8).handler.pend = .none ∧ (collecting 1#4 0#4 0#3 0x7F#8).handler.i = 0#3) ∧
    0 < (collecting 1#4 0#4 1#3 0x7F#8).handler.i.toNat ∧ (collecting 1#4 0#4 6#3 0x7F#8).handler.i.toNat < 7 := by
  decide

/-- The eighth byte of E1's block, with the matching checksum or another, and `APP` of `cap` places. -/
def atEighth (good : Bool) (cap : Nat) : State :=
  let s := collecting 1#4 0#4 7#3 1#8
  { s.setHandler { s.handler with
      blk := if good then e1Good else { e1Good with checksum := e1Good.checksum ^^^ 1#8 } } with
    params := ⟨1, 1, 1, cap, 1, 0⟩ }

/-- A wrong checksum; five places; six places. -/
theorem witness_EighthByteCompletesTheBlock :
    (∀ (good : Bool) (cap : Nat), (atEighth good cap).handler.initialized = true ∧
      (atEighth good cap).handler.state = .handleBlock ∧ (atEighth good cap).handler.cur.toNat = (1#7).toNat ∧
      (atEighth good cap).handler.pend = .none ∧ (atEighth good cap).handler.i = 7#3 ∧
      (atEighth good cap).mem.app.rw = true ∧ (atEighth good cap).mem.app.locked = false ∧
      (atEighth good cap).mem.app.contents.length + (atEighth good cap).mem.app.pending.length ≤
        (atEighth good cap).params.appCap) ∧
    decodeBlock 0 { (atEighth false 6).handler.blk with d5 := (atEighth false 6).handler.cur } = none ∧
    (∃ r, decodeBlock 0 { (atEighth true 5).handler.blk with d5 := (atEighth true 5).handler.cur } = some r) ∧
    (atEighth true 5).params.appCap - 0 < 6 ∧ 6 ≤ (atEighth true 6).params.appCap - 0 := by
  have h : ∀ c : Byte, ¬ c = c ^^^ 1#8 := by decide
  refine ⟨fun good cap => ⟨rfl, rfl, rfl, rfl, rfl, rfl, rfl, Nat.zero_le cap⟩, ?_, ⟨_, e1Good_decodes⟩, by decide,
    by decide⟩
  exact if_neg (h e1Good.checksum)

/-- A pending error; an illegal value; the four that go on; the commit; a block short. -/
theorem witness_HPollSamplesTheAccumulator :
    (let s (acc : BitVec 4) (blocks : BitVec 4) (e : HandlerError) : State :=
      booted.setHandler { booted.handler with
        state := .checkFinal, acc := acc, frameN := 1#4, blocks := blocks, pend := e }
     (s 5#4 0#4 .reentrantBlock).handler.initialized = true ∧
     (s 5#4 0#4 .reentrantBlock).handler.state = .checkFinal ∧
     (s 5#4 0#4 .reentrantBlock).handler.pend ≠ .none ∧
     ((s 5#4 0#4 .none).handler.pend = .none ∧
       (s 5#4 0#4 .none).handler.acc ∉ ([0#4, 1#4, 3#4, 7#4, 15#4] : List (BitVec 4))) ∧
     (s 7#4 0#4 .none).handler.acc ∈ ([0#4, 1#4, 3#4, 7#4] : List (BitVec 4)) ∧
     ((s 15#4 1#4 .none).handler.acc = 15#4 ∧
       (s 15#4 1#4 .none).handler.blocks = (s 15#4 1#4 .none).handler.frameN ∧
       (s 15#4 1#4 .none).handler.i = 0#3) ∧
     (s 15#4 0#4 .none).handler.blocks ≠ (s 15#4 0#4 .none).handler.frameN) := by decide

/-- With an error pending and the reversible write open, as `ChecksumMismatch` leaves it. -/
theorem witness_HPollProcessesTheError :
    (let s := collecting 1#4 0#4 0#3 1#8
     let t := s.setHandler { s.handler with state := .processError, pend := .checksumMismatch }
     t.handler.initialized = true ∧ t.handler.state = .processError ∧ t.handler.pend ≠ .none ∧
       HandlerInv t) := by
  refine ⟨rfl, rfl, by decide, ?_⟩
  constructor <;> decide

/-- State B meets the invariant. -/
theorem booted_inv : Inv booted := by
  refine ⟨by decide, by decide, ?_, ?_⟩ <;> constructor <;> decide

/-- E1's frame in `IN`, with a byte behind it, and exactly six places in `APP`. `CS7 0` says its checksum is a DATA byte
(`witness_CS7`: some function has the property). -/
theorem witness_HandlerReceivesAGoodFrame (h : CS7 0) :
    (let s : State := { handlerAt .idle 0#4 (frameBytes 1#4 [e1Good] ++ [0x41#8]) with params := ⟨1, 1, 13, 6, 1, 0⟩ }
     s.handler.initialized = true ∧ s.handler.state = .idle ∧ s.handler.regApp = true ∧ s.handler.regLsn = true ∧
     HandlerInv s ∧ s.mem.app.pending = [] ∧ s.mem.app.locked = false ∧ (1#4 : BitVec 4) ≠ 0#4 ∧
     ([e1Any] : List WireBlock).length = (1#4).toNat ∧
     ([e1Any] : List WireBlock).map (fun b => decodeBlock 0 b.toBlk8) =
       ([⟨0x41#8, 0xFF#8, 0#8, 0x80#8, 0x7F#8, 1#8⟩] : List Raw6).map some ∧
     (∀ b ∈ ([e1Any] : List WireBlock), b.c ≤ 0x7F#8) ∧
     s.mem.inb.contents = frameBytes 1#4 (([e1Any] : List WireBlock).map WireBlock.toBlk8) ++ [0x41#8] ∧
     s.mem.app.contents.length + 6 * (1#4).toNat ≤ s.params.appCap) := by
  refine ⟨rfl, rfl, rfl, rfl, ?_, rfl, rfl, by decide, rfl, congrArg (fun x => [x]) e1Good_decodes, ?_, rfl, by decide⟩
  · constructor <;> decide
  · intro b hb
    rw [List.mem_singleton] at hb
    subst hb
    exact h ⟨0x41#8, 0x7F#8, 0#8, 0#8, 0x7F#8, 1#8⟩ (by decide) (by decide) (by decide) (by decide) (by decide) (by decide)

theorem witness_EnvironmentTakesBytesAndClearsFlags :
    booted.mem.out.contents = [] ∧ booted.mem.app.contents = [] ∧
    (booted.setOut ⟨[1#8], [], false, false⟩).mem.out.contents = 1#8 :: [] ∧
    (booted.setApp ⟨[1#8], [], false, false⟩).mem.app.contents = 1#8 :: [] := by decide

theorem witness_StepKeepsTheInvariant : Inv booted ∧ ∃ t, step booted = .next t := ⟨booted_inv, ⟨_, rfl⟩⟩

theorem witness_WriterAndHandlerAreIndependent :
    (writerSide .wOpen ∧ ∃ t, exec .wOpen booted = .next t) ∧ (handlerSide .hPoll ∧ ∃ t, exec .hPoll booted = .next t) ∧
    (handlerSide (decodeWireByte 0x41#8) ∧ ∃ t, exec (decodeWireByte 0x41#8) booted = .next t) :=
  ⟨⟨trivial, _, rfl⟩, ⟨trivial, _, rfl⟩, ⟨trivial, _, rfl⟩⟩

/-- The two states of each pair differ in the other side: a spinning writer for the handler, a collecting handler for the
writer. An instruction of the side goes on, and one is refused. -/
theorem witness_NeitherUnitReadsTheOther :
    (AgreeOnHandler spinning booted ∧ spinning.writer ≠ booted.writer ∧ spinning.params = booted.params ∧
      spinning.answer = booted.answer ∧ handlerSide .hPoll ∧ (∃ t, exec .hPoll spinning = .next t)) ∧
    (let s := collecting 1#4 0#4 1#3 0x41#8
     AgreeOnWriter s booted ∧ s.handler ≠ booted.handler ∧ s.params = booted.params ∧ s.answer = booted.answer ∧
       writerSide .wPoll ∧ (∃ t, exec .wPoll s = .next t)) ∧
    (handlerSide .hRegapp ∧ ∃ r, exec .hRegapp (handlerAt .getByte 0#4 []) = .refused r) :=
  ⟨⟨⟨rfl, rfl, rfl, rfl, rfl⟩, by decide, rfl, rfl, trivial, _, rfl⟩,
    ⟨⟨rfl, rfl, rfl, rfl, rfl⟩, by decide, rfl, rfl, trivial, _, rfl⟩, trivial, _, rfl⟩

theorem witness_AppGrowsOnlyByACommit : HandlerInv booted ∧ ∃ t, exec .eAppget booted = .next t :=
  ⟨booted_inv.handler, ⟨_, rfl⟩⟩

theorem witness_BuffersAreFirstInFirstOut :
    (∃ t, exec .eOutget booted = .next t) ∧ (∃ t, exec .wInit booted = .next t) ∧
    (∃ t, exec .hPoll (handlerAt .getByte 0#4 [0xC1#8]) = .next t) := ⟨⟨_, rfl⟩, ⟨_, rfl⟩, ⟨_, rfl⟩⟩

end Sys2Proof.Tests
end

