-- ==== Sys2Proof/Proofs/Scope.lean ====
section
/-!
SUPPORT. The frame every instruction has in common: what surrounds the two units (the agents' queues, the turns, the
parameters) stays as it was, said once for each transition and for each shared operation of the meanings. Then the step
around exec, one equation per case of it.
-/

namespace Sys2Proof.Machine

/-! ## What surrounds the units -/

/-- What no instruction may touch: the agents' queues and the turns (notes/assumptions/5), and the parameters (R8 to
R10). -/
def State.surroundings (s : State) : Queues × List Turn × Params := (s.queues, s.turns, s.params)

theorem State.surroundings_eq_iff (s t : State) :
    t.surroundings = s.surroundings ↔ t.queues = s.queues ∧ t.turns = s.turns ∧ t.params = s.params := by
  simp [State.surroundings]

/-- An outcome at `s` that goes on leaves the surroundings as they were. -/
def KeepsSurroundings (s : State) (o : Host.Outcome State Fault Refusal) : Prop :=
  ∀ t, o = .next t → t.surroundings = s.surroundings

theorem keepsSurroundings_next {s t : State} (h : t.surroundings = s.surroundings) :
    KeepsSurroundings s (.next t) := by
  intro u hu
  cases hu
  exact h

theorem keepsSurroundings_refused (s : State) (r : Refusal) : KeepsSurroundings s (.refused r) := by
  intro t h
  cases h

theorem keepsSurroundings_hold (s : State) : KeepsSurroundings s (hold s) := keepsSurroundings_next rfl

theorem keepsSurroundings_failW (e : WriterError) (code : ResponseCode) (s : State) :
    KeepsSurroundings s (failW e code s) := keepsSurroundings_next rfl

theorem keepsSurroundings_writerPort {b : Bool} {s : State} {k : Host.Outcome State Fault Refusal}
    (hk : KeepsSurroundings s k) : KeepsSurroundings s (writerPort b s k) := by
  intro t h
  obtain ⟨-, ⟨-, -, rfl⟩ | ⟨-, h⟩⟩ := writerPort_next h
  · rfl
  · exact hk t h

theorem keepsSurroundings_handlerPort {s : State} {k : Host.Outcome State Fault Refusal}
    (hk : KeepsSurroundings s k) : KeepsSurroundings s (handlerPort s k) :=
  fun t h => hk t (handlerPort_next h).2

/-! ## The writer -/

theorem pollIdleW_surroundings (s : State) : (pollIdleW s).surroundings = s.surroundings := by
  unfold pollIdleW
  split <;> rfl

theorem pollWaitForTrigger_surroundings (s : State) : (pollWaitForTrigger s).surroundings = s.surroundings := by
  unfold pollWaitForTrigger
  split <;> rfl

theorem pollComputeBlockCount_surroundings (s : State) :
    (pollComputeBlockCount s).surroundings = s.surroundings := by
  simp only [pollComputeBlockCount]
  split
  · rfl
  · split <;> rfl

theorem pollEmitControl_surroundings (code : BitVec 4) (after : WState) (s : State) :
    (pollEmitControl code after s).surroundings = s.surroundings := by
  unfold pollEmitControl
  split <;> rfl

theorem emitBlock_surroundings (s : State) : (emitBlock s).surroundings = s.surroundings := by
  obtain ⟨k, -, -, ⟨-, h⟩ | ⟨-, h⟩⟩ := emitBlock_cases s <;> rw [h] <;> rfl

theorem pollWaitAck_surroundings (s : State) : (pollWaitAck s).surroundings = s.surroundings := by
  unfold pollWaitAck
  split <;> rfl

theorem writerTransition_surroundings (s : State) : (writerTransition s).surroundings = s.surroundings := by
  unfold writerTransition
  cases s.writer.state with
  | idle => exact pollIdleW_surroundings s
  | waitForTrigger => exact pollWaitForTrigger_surroundings s
  | lockBuffer => rfl
  | computeBlockCount => exact pollComputeBlockCount_surroundings s
  | emitStart1 => exact pollEmitControl_surroundings _ _ s
  | emitStart2 => exact pollEmitControl_surroundings _ _ s
  | initBlock => rfl
  | fillBlock => rfl
  | emitBlockBytes => exact emitBlock_surroundings s
  | unlockBuffer => rfl
  | emitEnd1 => exact pollEmitControl_surroundings _ _ s
  | emitEnd2 => exact pollEmitControl_surroundings _ _ s
  | signalListener => rfl
  | waitAck => exact pollWaitAck_surroundings s
  | reset => rfl
  | processError => rfl

theorem execWInit_keepsSurroundings (s : State) : KeepsSurroundings s (execWInit s) := by
  unfold execWInit
  split
  · exact keepsSurroundings_hold s
  · exact keepsSurroundings_next rfl

theorem execWOpen_keepsSurroundings (s : State) : KeepsSurroundings s (execWOpen s) := by
  refine keepsSurroundings_writerPort ?_
  split
  · exact keepsSurroundings_failW _ _ s
  · exact keepsSurroundings_next rfl

theorem execWWrite_keepsSurroundings (b : Byte) (s : State) : KeepsSurroundings s (execWWrite b s) := by
  refine keepsSurroundings_writerPort ?_
  split
  · exact keepsSurroundings_failW _ _ s
  · split
    · exact keepsSurroundings_failW _ _ s
    · exact keepsSurroundings_next rfl

theorem execWClose_keepsSurroundings (s : State) : KeepsSurroundings s (execWClose s) := by
  refine keepsSurroundings_writerPort ?_
  split
  · exact keepsSurroundings_failW _ _ s
  · exact keepsSurroundings_next rfl

theorem execWTrigger_keepsSurroundings (s : State) : KeepsSurroundings s (execWTrigger s) := by
  refine keepsSurroundings_writerPort ?_
  split
  · exact keepsSurroundings_failW _ _ s
  · exact keepsSurroundings_next rfl

theorem execWRegout_keepsSurroundings (s : State) : KeepsSurroundings s (execWRegout s) := by
  refine keepsSurroundings_writerPort ?_
  split
  · exact keepsSurroundings_next rfl
  · exact keepsSurroundings_refused s _

theorem execWReglsn_keepsSurroundings (s : State) : KeepsSurroundings s (execWReglsn s) := by
  refine keepsSurroundings_writerPort ?_
  split
  · exact keepsSurroundings_next rfl
  · exact keepsSurroundings_refused s _

theorem execWSpin_keepsSurroundings (s : State) : KeepsSurroundings s (execWSpin s) := by
  unfold execWSpin
  split
  · exact keepsSurroundings_next (emitBlock_surroundings s)
  · exact keepsSurroundings_hold s

theorem execBlock_keepsSurroundings (b : WireBlock) (s : State) : KeepsSurroundings s (execBlock b s) := by
  unfold execBlock
  split
  · exact keepsSurroundings_refused s _
  · split
    · exact keepsSurroundings_next (emitBlock_surroundings s)
    · exact keepsSurroundings_hold s

theorem execFrame_keepsSurroundings (n : BitVec 4) (blocks : List WireBlock) (s : State) :
    KeepsSurroundings s (execFrame n blocks s) := by
  unfold execFrame
  split
  · exact keepsSurroundings_refused s _
  · split
    · split
      · exact keepsSurroundings_next rfl
      · exact keepsSurroundings_hold s
    · exact keepsSurroundings_hold s

/-! ## The codec -/

theorem execCodecEncode_keepsSurroundings (raw : List Byte) (s : State) :
    KeepsSurroundings s (execCodecEncode raw s) := by
  unfold execCodecEncode
  split
  · exact keepsSurroundings_next rfl
  · exact keepsSurroundings_refused s _

/-! ## The handler -/

theorem acceptSc1_surroundings (c : BitVec 4) (s : State) : (acceptSc1 c s).surroundings = s.surroundings := by
  unfold acceptSc1
  split <;> rfl

theorem acceptSc2_surroundings (c : BitVec 4) (s : State) : (acceptSc2 c s).surroundings = s.surroundings := by
  unfold acceptSc2
  split <;> rfl

theorem acceptEc1_surroundings (c : BitVec 4) (s : State) : (acceptEc1 c s).surroundings = s.surroundings := by
  unfold acceptEc1
  split
  · rfl
  · split <;> rfl

theorem acceptEc2_surroundings (c : BitVec 4) (s : State) : (acceptEc2 c s).surroundings = s.surroundings := by
  unfold acceptEc2
  split <;> rfl

theorem ctrl_surroundings (k : Nat) {accept : State → State}
    (ha : ∀ s, (accept s).surroundings = s.surroundings) (s : State) :
    (ctrl k accept s).surroundings = s.surroundings := by
  obtain ⟨-, h⟩ | ⟨-, -, h⟩ | ⟨-, -, h⟩ := ctrl_cases k accept s <;> rw [h]
  · rfl
  · obtain ⟨e, -, he⟩ := repeatedCode_cases k s.handler.acc
      (s.setHandler { s.handler with acc := s.handler.acc ||| (1#4 <<< k) })
    rw [he]
    rfl
  · rw [ha]
    rfl

theorem takeControl_surroundings (k : Nat) {accept : State → State}
    (ha : ∀ s, (accept s).surroundings = s.surroundings) (s : State) :
    (takeControl k accept s).surroundings = s.surroundings :=
  ctrl_surroundings k ha s.takeIn

theorem takePayload_surroundings (b : Byte) (s : State) : (takePayload b s).surroundings = s.surroundings := by
  simp only [takePayload]
  split
  · rfl
  · split <;> rfl

theorem boundary_surroundings (b : Byte) (s : State) : (boundary b s).surroundings = s.surroundings := by
  unfold boundary
  split <;> rfl

theorem blockDone_surroundings (s : State) : (blockDone s).surroundings = s.surroundings := by
  simp only [blockDone]
  split
  · rfl
  · split <;> rfl

theorem dataByte_surroundings (b : Byte) (s : State) : (dataByte b s).surroundings = s.surroundings := by
  simp only [dataByte]
  split
  · rfl
  · split
    · exact blockDone_surroundings _
    · rfl

theorem pollIdleH_surroundings (s : State) : (pollIdleH s).surroundings = s.surroundings := by
  unfold pollIdleH
  split <;> rfl

theorem pollWaitForBytes_surroundings (s : State) : (pollWaitForBytes s).surroundings = s.surroundings := by
  unfold pollWaitForBytes
  split <;> rfl

theorem pollGetByte_surroundings (s : State) : (pollGetByte s).surroundings = s.surroundings := by
  unfold pollGetByte
  cases s.mem.inb.contents with
  | nil => rfl
  | cons b bs =>
    dsimp only
    cases classify b with
    | data d => exact takePayload_surroundings _ s
    | mask m => exact takePayload_surroundings _ s
    | sc1 n => exact takeControl_surroundings 0 (acceptSc1_surroundings n) s
    | sc2 n => exact takeControl_surroundings 1 (acceptSc2_surroundings n) s
    | ec1 n => exact takeControl_surroundings 2 (acceptEc1_surroundings n) s
    | ec2 n => exact takeControl_surroundings 3 (acceptEc2_surroundings n) s

theorem pollHandleBlock_surroundings (s : State) : (pollHandleBlock s).surroundings = s.surroundings := by
  have hbyte : (if isBoundary s.handler.cur = true then boundary s.handler.cur s
      else dataByte s.handler.cur s).surroundings = s.surroundings := by
    split
    · exact boundary_surroundings _ s
    · exact dataByte_surroundings _ s
  unfold pollHandleBlock
  generalize (if isBoundary s.handler.cur = true then boundary s.handler.cur s
    else dataByte s.handler.cur s) = t at hbyte ⊢
  dsimp only
  split <;> exact hbyte

theorem pollCheckFinal_surroundings (s : State) : (pollCheckFinal s).surroundings = s.surroundings := by
  unfold pollCheckFinal
  split
  · rfl
  · split
    · rfl
    · split
      · split <;> rfl
      · rfl

theorem pollWaitProcessed_surroundings (s : State) : (pollWaitProcessed s).surroundings = s.surroundings := by
  unfold pollWaitProcessed
  split <;> rfl

theorem pollProcessErrorH_surroundings (s : State) : (pollProcessErrorH s).surroundings = s.surroundings := by
  rw [pollProcessErrorH, State.leaveErrorH_eq]
  rfl

theorem handlerTransition_surroundings (s : State) : (handlerTransition s).surroundings = s.surroundings := by
  unfold handlerTransition
  cases s.handler.state with
  | idle => exact pollIdleH_surroundings s
  | waitForBytes => exact pollWaitForBytes_surroundings s
  | getByte => exact pollGetByte_surroundings s
  | handleBlock => exact pollHandleBlock_surroundings s
  | checkFinal => exact pollCheckFinal_surroundings s
  | waitProcessed => exact pollWaitProcessed_surroundings s
  | completeReset => rfl
  | processError => exact pollProcessErrorH_surroundings s

theorem execHSubmit_keepsSurroundings (b : Byte) (s : State) : KeepsSurroundings s (execHSubmit b s) := by
  refine keepsSurroundings_handlerPort ?_
  split <;> exact keepsSurroundings_next rfl

theorem execHRegapp_keepsSurroundings (s : State) : KeepsSurroundings s (execHRegapp s) := by
  refine keepsSurroundings_handlerPort ?_
  split
  · exact keepsSurroundings_next rfl
  · exact keepsSurroundings_refused s _

theorem execHReglsn_keepsSurroundings (s : State) : KeepsSurroundings s (execHReglsn s) := by
  refine keepsSurroundings_handlerPort ?_
  split
  · exact keepsSurroundings_next rfl
  · exact keepsSurroundings_refused s _

theorem keepsSurroundings_takenFromIn (b : Byte) {take : State → State} {s : State}
    (ht : (take s).surroundings = s.surroundings) : KeepsSurroundings s (takenFromIn b take s) := by
  intro t h
  obtain ⟨-, ⟨-, -, rfl⟩ | rfl⟩ := takenFromIn_next h
  · exact ht
  · rfl

theorem keepsSurroundings_takenOrCollected (b : Byte) {take : State → State} {s : State}
    (ht : (take s).surroundings = s.surroundings) : KeepsSurroundings s (takenOrCollected b take s) := by
  intro t h
  obtain ⟨-, ⟨-, -, rfl⟩ | ⟨-, -, rfl⟩ | rfl⟩ := takenOrCollected_next h
  · exact pollHandleBlock_surroundings s
  · exact ht
  · rfl

/-! ## Every instruction -/

/-- The frame all instructions share. -/
theorem exec_keepsSurroundings (i : Instr) (s : State) : KeepsSurroundings s (exec i s) := by
  cases i with
  | wInit => exact execWInit_keepsSurroundings s
  | wPoll => exact keepsSurroundings_writerPort (keepsSurroundings_next (writerTransition_surroundings s))
  | wOpen => exact execWOpen_keepsSurroundings s
  | wWrite b => exact execWWrite_keepsSurroundings b s
  | wClose => exact execWClose_keepsSurroundings s
  | wTrigger => exact execWTrigger_keepsSurroundings s
  | wQcount => exact keepsSurroundings_writerPort (keepsSurroundings_next rfl)
  | wRegout => exact execWRegout_keepsSurroundings s
  | wReglsn => exact execWReglsn_keepsSurroundings s
  | wStatus => exact keepsSurroundings_writerPort (keepsSurroundings_next rfl)
  | hInit => exact keepsSurroundings_next rfl
  | hPoll => exact keepsSurroundings_handlerPort (keepsSurroundings_next (handlerTransition_surroundings s))
  | hSubmit b => exact execHSubmit_keepsSurroundings b s
  | hRegapp => exact execHRegapp_keepsSurroundings s
  | hReglsn => exact execHReglsn_keepsSurroundings s
  | hStatus => exact keepsSurroundings_handlerPort (keepsSurroundings_next rfl)
  | eOutget => exact keepsSurroundings_next rfl
  | eAppget => exact keepsSurroundings_next rfl
  | eClrapplsn => exact keepsSurroundings_next rfl
  | eClrsendlsn => exact keepsSurroundings_next rfl
  | wSpin => exact execWSpin_keepsSurroundings s
  | codecEncode raw => exact execCodecEncode_keepsSurroundings raw s
  | codecDecode blk => exact keepsSurroundings_next rfl
  | wireData d => exact keepsSurroundings_takenOrCollected _ (takePayload_surroundings _ s)
  | wireMask m => exact keepsSurroundings_takenOrCollected _ (takePayload_surroundings _ s)
  | wireSc1 n => exact keepsSurroundings_takenFromIn _ (takeControl_surroundings 0 (acceptSc1_surroundings n) s)
  | wireSc2 n => exact keepsSurroundings_takenFromIn _ (takeControl_surroundings 1 (acceptSc2_surroundings n) s)
  | wireEc1 n => exact keepsSurroundings_takenFromIn _ (takeControl_surroundings 2 (acceptEc1_surroundings n) s)
  | wireEc2 n => exact keepsSurroundings_takenFromIn _ (takeControl_surroundings 3 (acceptEc2_surroundings n) s)
  | frame n blocks => exact execFrame_keepsSurroundings n blocks s
  | block b => exact execBlock_keepsSurroundings b s

/-- Settles O7: every instruction keeps the surroundings (`exec_keepsSurroundings`). -/
theorem instructionsLeaveAgentsAndParameters : Obligations.InstructionsLeaveAgentsAndParameters :=
  fun i s t h => (State.surroundings_eq_iff s t).1 (exec_keepsSurroundings i s t h)

/-! ## The step -/

section

variable {s : State} {rest : List Turn}

theorem step_no_turn (ht : s.turns = []) : step s = .next s := by simp [step, ht]

theorem step_spin (ht : s.turns = .spin :: rest) : step s = exec .wSpin (s.setTurns rest) := by simp [step, ht]

theorem step_pass {a : Agent} (ht : s.turns = .command a :: rest) (hq : s.queues.of a = []) :
    step s = .next (s.setTurns rest) := by
  simp [step, ht, hq]

theorem step_command {a : Agent} {w : CommandWord} {ws : List CommandWord} {i : Instr}
    (ht : s.turns = .command a :: rest) (hq : s.queues.of a = w :: ws) (hd : decodeCommand w = .ok i) :
    step s = afterCommand a (exec i (s.setTurns rest)) := by
  simp [step, ht, hq, hd]

end

theorem afterCommand_held (a : Agent) {t : State} (h : t.answer = .held) : afterCommand a (.next t) = .next t :=
  if_pos h

theorem afterCommand_issued (a : Agent) {t : State} (h : t.answer ≠ .held) :
    afterCommand a (.next t) = .next (t.retire a) :=
  if_neg h

/-- Settles O6, by the equations of the step's cases (`step_command`, `step_spin`, `step_pass`, `step_no_turn`). -/
theorem stepRunsTheDecodedCommand : Obligations.StepRunsTheDecodedCommand := by
  refine fun s => ⟨?_, fun _ => step_spin, fun _ _ => step_pass, step_no_turn⟩
  intro a rest w ws i ht hq hd
  rw [step_command ht hq hd]
  refine ⟨fun t he ha => ?held, fun t he ha => ?issued, fun r he => ?refused⟩
  case held => exact (congrArg (afterCommand a) he).trans (afterCommand_held a ha)
  case issued => exact (congrArg (afterCommand a) he).trans (afterCommand_issued a ha)
  case refused => exact congrArg (afterCommand a) he

end Sys2Proof.Machine
end

/-!
SUPPORT. The family of 10_state.md: the two status words read field by field (R50, R51), what `W.STATUS` and `H.STATUS`
do behind their ports' guards, and the tables of codes. A status word is its fields laid end to end; a field is read by
going past the fields below it, one at a time, until it is the lowest.
-/

namespace Sys2Proof.Machine

/-! ## A field of a word -/

/-- A field at place `k` stands at `k + v` once another of width `v` is laid below it. -/
theorem extractLsb'_append_above {u v len k : Nat} {hi : BitVec u} {lo : BitVec v} {x : BitVec len}
    (h : hi.extractLsb' k len = x) : (hi ++ lo).extractLsb' (k + v) len = x := by
  rw [BitVec.extractLsb'_append_eq_of_le (Nat.le_add_left v k), Nat.add_sub_cancel, h]

/-- A status bit is a field of width 1. -/
theorem getLsbD_of_extractLsb'_eq_bit {w k : Nat} {d : BitVec w} {b : Bool} (h : d.extractLsb' k 1 = bit b) :
    d.getLsbD k = b := by
  simpa [bit] using congrArg (BitVec.getLsbD · 0) h

/-! ## The two commands -/

/-- A writer command that R101 exempts from the busy guard runs whenever the writer is initialized. -/
theorem writerPort_whileBusy {s : State} (k : Host.Outcome State Fault Refusal)
    (hi : s.writer.initialized = true) : writerPort true s k = k := by
  simp [writerPort, hi]

theorem exec_wStatus {s : State} (hi : s.writer.initialized = true) :
    exec .wStatus s = .next { s with answer := .response .ok (writerStatus s) } :=
  writerPort_whileBusy _ hi

theorem exec_hStatus {s : State} (hi : s.handler.initialized = true) :
    exec .hStatus s = .next { s with answer := .response .ok (handlerStatus s) } :=
  handlerPort_ready _ hi

/-- Settles O18: the answer is `writerStatus` (`exec_wStatus`), each of whose fields is the lowest once the fields below
it are passed (`extractLsb'_append_above`). -/
theorem wStatusAnswersTheFields : Obligations.WStatusAnswersTheFields := by
  intro s hi
  refine ⟨writerStatus s, exec_wStatus hi, ?state, getLsbD_of_extractLsb'_eq_bit ?composing,
    getLsbD_of_extractLsb'_eq_bit ?triggered, getLsbD_of_extractLsb'_eq_bit ?busy,
    getLsbD_of_extractLsb'_eq_bit ?locked, ?lastError, getLsbD_of_extractLsb'_eq_bit ?reserved11, ?n, ?bidx, ?byteIdx,
    ?reserved24⟩
  all_goals repeat apply extractLsb'_append_above
  case reserved24 => exact BitVec.extractLsb'_eq_self
  all_goals exact BitVec.extractLsb'_append_eq_right

/-- Settles O39: the answer is `handlerStatus` (`exec_hStatus`), whose fields are read as the writer's are. -/
theorem hStatusAnswersTheFields : Obligations.HStatusAnswersTheFields := by
  intro s hi
  refine ⟨handlerStatus s, exec_hStatus hi, ?state, getLsbD_of_extractLsb'_eq_bit ?rwOpen, ?acc, ?lastError, ?blocks,
    ?frameN, ?i, getLsbD_of_extractLsb'_eq_bit ?reserved23, ?pend, ?reserved28⟩
  all_goals repeat apply extractLsb'_append_above
  case reserved28 => exact BitVec.extractLsb'_eq_self
  all_goals exact BitVec.extractLsb'_append_eq_right

/-! ## The codes -/

/-- Settles O40: the five tables, each evaluated: the writer's errors, the handler's errors, the responses, the writer's
states, the handler's states. -/
theorem codesAreTheTables : Obligations.CodesAreTheTables := ⟨rfl, rfl, rfl, rfl, rfl⟩

end Sys2Proof.Machine

/-!
SUPPORT. The family of 20_memory.md, part 1: what every instruction does to the four buffers and to the two units, said
once (`exec_effect`). The writer's transitions share one frame (bytes leave `SRC` at the front and join `OUT` at the
back, R65), the handler's another (bytes leave `IN` at the front, `APP` is moved by R59 to R61, R66); most commands
touch nothing that the buffers' and the units' properties read.
-/

namespace Sys2Proof.Machine

/-! ## Buffers -/

theorem afterGet_eq (b : Buffer) : afterGet b = { b with contents := b.contents.drop 1 } := by
  obtain ⟨contents, pending, rw, locked⟩ := b
  cases contents <;> rfl

theorem Buffer.put_eq_putAll {cap : Nat} {b b' : Buffer} {v : Byte} (h : b.put cap v = some b') :
    b' = (Buffer.putAll cap b [v]).1 := by
  simp only [Buffer.putAll, h]

/-- With no reversible write open, an accepted byte joins what a reader can take. -/
theorem Buffer.put_contents {cap : Nat} {b b' : Buffer} {v : Byte} (h : b.put cap v = some b') :
    b'.contents = b.contents ∨ b'.contents = b.contents ++ [v] := by
  obtain ⟨-, e⟩ | ⟨-, -, -, e⟩ | ⟨-, -, -, e⟩ := Buffer.put_cases cap b v <;> rw [e] at h <;> cases h
  · exact .inl rfl
  · exact .inr rfl

/-- A locked buffer accepts no byte, and accepting one locks nothing (R64). -/
theorem Buffer.put_unlocked {cap : Nat} {b b' : Buffer} {v : Byte} (h : b.put cap v = some b') :
    b.locked = false ∧ b'.locked = false := by
  obtain ⟨-, e⟩ | ⟨-, hl, -, e⟩ | ⟨-, hl, -, e⟩ := Buffer.put_cases cap b v <;> rw [e] at h <;> cases h
  · exact ⟨hl, hl⟩
  · exact ⟨hl, hl⟩

theorem Buffer.putAll_contents (cap : Nat) (l : List Byte) (b : Buffer) :
    ∃ l', (Buffer.putAll cap b l).1.contents = b.contents ++ l' := by
  obtain ⟨k, -, -, ⟨-, e⟩ | ⟨-, e⟩⟩ := Buffer.putAll_cases cap l b <;> rw [e]
  · exact ⟨_, rfl⟩
  · exact ⟨[], (List.append_nil _).symm⟩

/-- While a reversible write is open, bytes put are pending and not yet readable (R56). -/
theorem Buffer.putAll_contents_of_rw {cap : Nat} {b : Buffer} (l : List Byte) (h : b.rw = true) :
    (Buffer.putAll cap b l).1.contents = b.contents := by
  obtain ⟨k, -, -, ⟨hr, -⟩ | ⟨-, e⟩⟩ := Buffer.putAll_cases cap l b
  · rw [h] at hr
    cases hr
  · rw [e]

theorem Buffer.putAll_rw (cap : Nat) (l : List Byte) (b : Buffer) : (Buffer.putAll cap b l).1.rw = b.rw := by
  obtain ⟨k, -, -, ⟨-, e⟩ | ⟨-, e⟩⟩ := Buffer.putAll_cases cap l b <;> rw [e]

/-- While a reversible write is open, bytes that all fit are all pending. -/
theorem Buffer.putAll_pending_of_all {cap : Nat} {l : List Byte} {b : Buffer} (h : b.rw = true)
    (hall : (Buffer.putAll cap b l).2 = []) : (Buffer.putAll cap b l).1.pending = b.pending ++ l := by
  obtain ⟨k, hleft, -, ⟨hr, -⟩ | ⟨-, e⟩⟩ := Buffer.putAll_cases cap l b
  · rw [h] at hr
    cases hr
  · rw [e, List.take_of_length_le (List.drop_eq_nil_iff.1 (hleft.symm.trans hall))]

/-! ## The writer's frame -/

/-- `t` is `s` after something the writer's side did: the handler, `IN` and `APP` as they were, bytes gone from the
front of `SRC`, bytes put into `OUT`. -/
structure WriterFrame (s t : State) : Prop where
  handler : t.handler = s.handler
  params : t.params = s.params
  mem : ∃ k locked l, t.mem =
    ⟨{ s.mem.src with contents := s.mem.src.contents.drop k, locked := locked },
      (Buffer.putAll s.params.outCap s.mem.out l).1, s.mem.inb, s.mem.app⟩

theorem WriterFrame.of_mem_eq {s t : State} (hh : t.handler = s.handler) (hp : t.params = s.params)
    (hm : t.mem = s.mem) : WriterFrame s t :=
  ⟨hh, hp, 0, s.mem.src.locked, [], hm⟩

theorem WriterFrame.of_src {s t : State} (k : Nat) (locked : Bool) (hh : t.handler = s.handler)
    (hp : t.params = s.params)
    (hm : t.mem = { s.mem with src := { s.mem.src with contents := s.mem.src.contents.drop k, locked := locked } }) :
    WriterFrame s t :=
  ⟨hh, hp, k, locked, [], hm⟩

theorem WriterFrame.of_out {s t : State} (l : List Byte) (hh : t.handler = s.handler) (hp : t.params = s.params)
    (hm : t.mem = { s.mem with out := (Buffer.putAll s.params.outCap s.mem.out l).1 }) : WriterFrame s t :=
  ⟨hh, hp, 0, s.mem.src.locked, l, hm⟩

theorem WriterFrame.respond {s t : State} (h : WriterFrame s t) (c : ResponseCode) (d : DataWord) :
    WriterFrame s (t.respond c d) :=
  ⟨h.handler, h.params, h.mem⟩

theorem pollLockBuffer_eq (s : State) :
    pollLockBuffer s = (s.setSrc { s.mem.src with locked := true }).gotoW .computeBlockCount := by
  have h : (s.mem.src.acquireLock).getD s.mem.src = { s.mem.src with locked := true } := by
    unfold Buffer.acquireLock
    split
    · rename_i hl
      rw [← hl]
      rfl
    · rfl
  rw [pollLockBuffer, h]

theorem pollIdleW_frame (s : State) : WriterFrame s (pollIdleW s) := by
  unfold pollIdleW
  split <;> exact .of_mem_eq rfl rfl rfl

theorem pollWaitForTrigger_frame (s : State) : WriterFrame s (pollWaitForTrigger s) := by
  unfold pollWaitForTrigger
  split <;> exact .of_mem_eq rfl rfl rfl

theorem pollLockBuffer_frame (s : State) : WriterFrame s (pollLockBuffer s) := by
  rw [pollLockBuffer_eq]
  exact .of_src 0 true rfl rfl rfl

theorem pollComputeBlockCount_frame (s : State) : WriterFrame s (pollComputeBlockCount s) := by
  simp only [pollComputeBlockCount]
  split
  · exact .of_src s.mem.src.contents.length s.mem.src.locked rfl rfl (by rw [List.drop_length]; rfl)
  · split
    · exact .of_src 0 false rfl rfl rfl
    · exact .of_mem_eq rfl rfl rfl

theorem pollEmitControl_frame (code : BitVec 4) (after : WState) (s : State) :
    WriterFrame s (pollEmitControl code after s) := by
  unfold pollEmitControl
  split
  · exact .of_mem_eq rfl rfl rfl
  · rename_i out hout
    rw [Buffer.put_eq_putAll hout]
    exact .of_out _ rfl rfl rfl

theorem pollFillBlock_frame (s : State) : WriterFrame s (pollFillBlock s) :=
  .of_src (min 6 s.writer.remaining.toNat) s.mem.src.locked rfl rfl rfl

theorem emitBlock_frame (s : State) : WriterFrame s (emitBlock s) := by
  obtain ⟨k, -, -, ⟨-, h⟩ | ⟨-, h⟩⟩ := emitBlock_cases s <;> rw [h] <;> exact .of_out _ rfl rfl rfl

theorem pollWaitAck_frame (s : State) : WriterFrame s (pollWaitAck s) := by
  unfold pollWaitAck
  split <;> exact .of_mem_eq rfl rfl rfl

theorem writerTransition_frame (s : State) : WriterFrame s (writerTransition s) := by
  unfold writerTransition
  cases s.writer.state with
  | idle => exact pollIdleW_frame s
  | waitForTrigger => exact pollWaitForTrigger_frame s
  | lockBuffer => exact pollLockBuffer_frame s
  | computeBlockCount => exact pollComputeBlockCount_frame s
  | emitStart1 => exact pollEmitControl_frame _ _ s
  | emitStart2 => exact pollEmitControl_frame _ _ s
  | initBlock => exact .of_mem_eq rfl rfl rfl
  | fillBlock => exact pollFillBlock_frame s
  | emitBlockBytes => exact emitBlock_frame s
  | unlockBuffer => exact .of_src 0 false rfl rfl rfl
  | emitEnd1 => exact pollEmitControl_frame _ _ s
  | emitEnd2 => exact pollEmitControl_frame _ _ s
  | signalListener => exact .of_mem_eq rfl rfl rfl
  | waitAck => exact pollWaitAck_frame s
  | reset => exact .of_mem_eq rfl rfl rfl
  | processError => exact .of_src 0 false rfl rfl rfl

theorem afterFrame_frame {s : State} {out : Buffer} (l : List Byte)
    (h : out = (Buffer.putAll s.params.outCap s.mem.out l).1) : WriterFrame s (afterFrame s out) := by
  subst h
  exact ⟨rfl, rfl, _, false, l, rfl⟩

/-- The state after an accepted `W.INIT` (R193), but for the answer. -/
def State.initW (s : State) : State :=
  ((s.setWriter (initWriter s.writer)).setWriterHistory []).setSrc { s.mem.src with contents := [], locked := false }

theorem State.initW_frame (s : State) : WriterFrame s s.initW :=
  .of_src s.mem.src.contents.length false rfl rfl (by rw [List.drop_length]; rfl)

/-! ## The handler's frame -/

/-- The handler's registers with `FINISHED`, no error and all blocks in (R147). -/
def Handler.frameComplete (h : Handler) : Prop :=
  h.pend = .none ∧ h.acc = accFinished ∧ h.blocks = h.frameN ∧ h.i = 0#3

/-- What the handler's side does to `APP`, and the handler's registers where it does it: opening the reversible write
(R59), collecting a block (R160), committing a whole frame (R147), reversing it (R150, R194). -/
inductive AppMove (cap : Nat) (h : Handler) (b : Buffer) : Buffer → Prop
  | keep : AppMove cap h b b
  | opened : AppMove cap h b b.openRW
  | reversed : AppMove cap h b b.reverseRW
  | collected (l : List Byte) (hs : h.state = .handleBlock) : AppMove cap h b (Buffer.putAll cap b l).1
  | committed (hs : h.state = .checkFinal) (hc : h.frameComplete) : AppMove cap h b b.commitRW

/-- `t` is `s` after something the handler's side did: the writer, `SRC` and `OUT` as they were, the first `k` bytes
gone from `IN`, `APP` moved. -/
structure HandlerFrame (k : Nat) (s t : State) : Prop where
  writer : t.writer = s.writer
  params : t.params = s.params
  mem : ∃ app, AppMove s.params.appCap s.handler s.mem.app app ∧ t.mem =
    ⟨s.mem.src, s.mem.out, { s.mem.inb with contents := s.mem.inb.contents.drop k }, app⟩

theorem HandlerFrame.of_mem_eq {s t : State} (hw : t.writer = s.writer) (hp : t.params = s.params)
    (hm : t.mem = s.mem) : HandlerFrame 0 s t :=
  ⟨hw, hp, s.mem.app, .keep, hm⟩

theorem HandlerFrame.of_app {s t : State} {app : Buffer} (ha : AppMove s.params.appCap s.handler s.mem.app app)
    (hw : t.writer = s.writer) (hp : t.params = s.params) (hm : t.mem = { s.mem with app := app }) :
    HandlerFrame 0 s t :=
  ⟨hw, hp, app, ha, hm⟩

theorem HandlerFrame.respond {k : Nat} {s t : State} (h : HandlerFrame k s t) (c : ResponseCode) (d : DataWord) :
    HandlerFrame k s (t.respond c d) :=
  ⟨h.writer, h.params, h.mem⟩

/-- What judging a control byte can do outside the handler's registers: open the reversible write. -/
def MayOpenApp (s t : State) : Prop :=
  t.writer = s.writer ∧ t.params = s.params ∧ (t.mem = s.mem ∨ t.mem = { s.mem with app := s.mem.app.openRW })

theorem acceptSc1_mayOpenApp (c : BitVec 4) (s : State) : MayOpenApp s (acceptSc1 c s) := by
  unfold acceptSc1
  split <;> exact ⟨rfl, rfl, .inl rfl⟩

theorem acceptSc2_mayOpenApp (c : BitVec 4) (s : State) : MayOpenApp s (acceptSc2 c s) := by
  unfold acceptSc2
  split
  · exact ⟨rfl, rfl, .inl rfl⟩
  · exact ⟨rfl, rfl, .inr rfl⟩

theorem acceptEc1_mayOpenApp (c : BitVec 4) (s : State) : MayOpenApp s (acceptEc1 c s) := by
  unfold acceptEc1
  split
  · exact ⟨rfl, rfl, .inl rfl⟩
  · split <;> exact ⟨rfl, rfl, .inl rfl⟩

theorem acceptEc2_mayOpenApp (c : BitVec 4) (s : State) : MayOpenApp s (acceptEc2 c s) := by
  unfold acceptEc2
  split <;> exact ⟨rfl, rfl, .inl rfl⟩

theorem ctrl_mayOpenApp (k : Nat) {accept : State → State} (ha : ∀ s, MayOpenApp s (accept s)) (s : State) :
    MayOpenApp s (ctrl k accept s) := by
  obtain ⟨-, h⟩ | ⟨-, -, h⟩ | ⟨-, -, h⟩ := ctrl_cases k accept s <;> rw [h]
  · exact ⟨rfl, rfl, .inl rfl⟩
  · obtain ⟨e, -, he⟩ := repeatedCode_cases k s.handler.acc
      (s.setHandler { s.handler with acc := s.handler.acc ||| (1#4 <<< k) })
    rw [he]
    exact ⟨rfl, rfl, .inl rfl⟩
  · exact ha (s.setHandler { s.handler with acc := s.handler.acc ||| (1#4 <<< k) })

theorem takeControl_frame (k : Nat) {accept : State → State} (ha : ∀ s, MayOpenApp s (accept s)) (s : State) :
    HandlerFrame 1 s (takeControl k accept s) := by
  obtain ⟨hw, hp, hm | hm⟩ := ctrl_mayOpenApp k ha s.takeIn
  · exact ⟨hw, hp, s.mem.app, .keep, hm⟩
  · exact ⟨hw, hp, s.mem.app.openRW, .opened, hm⟩

theorem takePayload_frame (b : Byte) (s : State) : HandlerFrame 1 s (takePayload b s) := by
  simp only [takePayload]
  split
  · exact ⟨rfl, rfl, _, .keep, rfl⟩
  · split <;> exact ⟨rfl, rfl, _, .keep, rfl⟩

/-- What collecting a byte can do outside the handler's registers: put a block into `APP`. -/
def MayFillApp (s t : State) : Prop :=
  t.writer = s.writer ∧ t.params = s.params ∧
    ∃ l, t.mem = { s.mem with app := (Buffer.putAll s.params.appCap s.mem.app l).1 }

theorem boundary_mayFillApp (b : Byte) (s : State) : MayFillApp s (boundary b s) := by
  unfold boundary
  split <;> exact ⟨rfl, rfl, [], rfl⟩

/-- Everything `BLOCKDONE` can do: a wrong checksum or a block that does not fit is an error, the latter after as many
bytes as there is room for; a block that fits is counted. -/
theorem blockDone_cases (s : State) :
    blockDone s = (s.setHandler { s.handler with i := 0#3 }).pendH .checksumMismatch ∨
    ∃ r, let app := (Buffer.putAll s.params.appCap s.mem.app (rawList r)).1
      ((Buffer.putAll s.params.appCap s.mem.app (rawList r)).2 ≠ [] ∧
        blockDone s = ((s.setHandler { s.handler with i := 0#3 }).setApp app).pendH .outboundWriteFailed) ∨
      ((Buffer.putAll s.params.appCap s.mem.app (rawList r)).2 = [] ∧
        blockDone s = (s.setApp app).setHandler { s.handler with i := 0#3, blocks := s.handler.blocks + 1#4 }) := by
  simp only [blockDone]
  split
  · exact .inl rfl
  · rename_i r hr
    refine .inr ⟨r, ?_⟩
    simp only [State.setHandler_params, State.setHandler_mem_app]
    generalize Buffer.putAll s.params.appCap s.mem.app (rawList r) = p
    obtain ⟨app, left⟩ := p
    cases left with
    | nil => exact .inr ⟨rfl, rfl⟩
    | cons v vs => exact .inl ⟨List.cons_ne_nil v vs, rfl⟩

theorem blockDone_mayFillApp (s : State) : MayFillApp s (blockDone s) := by
  obtain h | ⟨r, ⟨-, h⟩ | ⟨-, h⟩⟩ := blockDone_cases s <;> rw [h]
  · exact ⟨rfl, rfl, [], rfl⟩
  · exact ⟨rfl, rfl, rawList r, rfl⟩
  · exact ⟨rfl, rfl, rawList r, rfl⟩

theorem dataByte_mayFillApp (b : Byte) (s : State) : MayFillApp s (dataByte b s) := by
  simp only [dataByte]
  split
  · exact ⟨rfl, rfl, [], rfl⟩
  · split
    · exact blockDone_mayFillApp (s.setHandler { s.handler with blk := setByte s.handler.blk s.handler.i.toNat b })
    · exact ⟨rfl, rfl, [], rfl⟩

/-- R146: the block phase on the byte taken. -/
def collectCur (s : State) : State :=
  if isBoundary s.handler.cur = true then boundary s.handler.cur s else dataByte s.handler.cur s

theorem pollHandleBlock_eq (s : State) :
    pollHandleBlock s =
      if (collectCur s).handler.pend ≠ .none then (collectCur s).enterErrorH else (collectCur s).gotoH .checkFinal :=
  rfl

theorem pollHandleBlock_frame {s : State} (hs : s.handler.state = .handleBlock) :
    HandlerFrame 0 s (pollHandleBlock s) := by
  have hfill : MayFillApp s (collectCur s) := by
    unfold collectCur
    split
    · exact boundary_mayFillApp _ s
    · exact dataByte_mayFillApp _ s
  obtain ⟨hw, hp, l, hm⟩ := hfill
  rw [pollHandleBlock_eq]
  split <;> exact .of_app (.collected l hs) hw hp hm

/-- R147: what is pending is committed at once, and `AppLsn` raised. -/
def State.commitFrame (s : State) : State :=
  ((s.setApp s.mem.app.commitRW).setAppLsn true).setHandler { s.handler with rwOpen := false, state := .waitProcessed }

theorem pollCheckFinal_commit {s : State} (h : s.handler.frameComplete) : pollCheckFinal s = s.commitFrame := by
  obtain ⟨hp, ha, hb, hi⟩ := h
  simp [pollCheckFinal, State.commitFrame, hp, ha, hb, hi, accLegal]

/-- Everything the sample point can do (R147): an error found here or before enters the error state, a whole frame is
committed, and the handler waits for the next byte otherwise. -/
theorem pollCheckFinal_cases (s : State) :
    (∃ e : HandlerError, e ≠ .none ∧ pollCheckFinal s = (s.pendH e).enterErrorH) ∨
    (s.handler.frameComplete ∧ pollCheckFinal s = s.commitFrame) ∨
    ((s.handler.pend = .none ∧ accLegal s.handler.acc = true ∧ s.handler.acc ≠ accFinished) ∧
      pollCheckFinal s = s.gotoH .waitForBytes) := by
  by_cases hp : s.handler.pend = .none
  case neg => exact .inl ⟨s.handler.pend, hp, if_pos hp⟩
  by_cases hl : accLegal s.handler.acc = false
  case pos => exact .inl ⟨.markerAccumulatorInvalid, by decide, by simp [pollCheckFinal, hp, hl]⟩
  by_cases ha : s.handler.acc = accFinished
  case neg => exact .inr (.inr ⟨⟨hp, by simpa using hl, ha⟩, by simp only [pollCheckFinal, hp, hl, ha]; rfl⟩)
  by_cases hb : s.handler.blocks = s.handler.frameN ∧ s.handler.i = 0#3
  case pos =>
    have hc : s.handler.frameComplete := ⟨hp, ha, hb⟩
    exact .inr (.inl ⟨hc, pollCheckFinal_commit hc⟩)
  exact .inl ⟨.blockIndexOutOfBounds, by decide, by simp only [pollCheckFinal, hp, ha, hb]; rfl⟩

theorem pollCheckFinal_frame {s : State} (hs : s.handler.state = .checkFinal) :
    HandlerFrame 0 s (pollCheckFinal s) := by
  obtain ⟨e, -, h⟩ | ⟨hc, h⟩ | ⟨-, h⟩ := pollCheckFinal_cases s <;> rw [h]
  · exact .of_mem_eq rfl rfl rfl
  · exact .of_app (.committed hs hc) rfl rfl rfl
  · exact .of_mem_eq rfl rfl rfl

/-- What a byte of each class does when `GetByte` takes it (R145). -/
def takeByte : WireClass → State → State
  | .data d => takeData d
  | .mask m => takeMask m
  | .sc1 n => takeSc1 n
  | .sc2 n => takeSc2 n
  | .ec1 n => takeEc1 n
  | .ec2 n => takeEc2 n

theorem pollGetByte_nil {s : State} (h : s.mem.inb.contents = []) : pollGetByte s = s := by
  simp only [pollGetByte, h]

theorem pollGetByte_cons {b : Byte} {bs : List Byte} {s : State} (h : s.mem.inb.contents = b :: bs) :
    pollGetByte s = takeByte (classify b) s := by
  simp only [pollGetByte, h]
  cases classify b <;> rfl

/-- The poll that finds a byte at the front of `IN` does what the row of the byte's class does. -/
theorem pollGetByte_of_head {c : WireClass} {s : State} (h : s.mem.inb.contents.head? = some c.byte) :
    pollGetByte s = takeByte c s := by
  obtain ⟨bs, hbs⟩ := List.head?_eq_some_iff.1 h
  rw [pollGetByte_cons hbs, classify_byte]

theorem takeByte_frame (c : WireClass) (s : State) : HandlerFrame 1 s (takeByte c s) := by
  cases c with
  | data d => exact takePayload_frame _ s
  | mask m => exact takePayload_frame _ s
  | sc1 n => exact takeControl_frame 0 (acceptSc1_mayOpenApp n) s
  | sc2 n => exact takeControl_frame 1 (acceptSc2_mayOpenApp n) s
  | ec1 n => exact takeControl_frame 2 (acceptEc1_mayOpenApp n) s
  | ec2 n => exact takeControl_frame 3 (acceptEc2_mayOpenApp n) s

theorem pollGetByte_frame (s : State) : ∃ k ≤ 1, HandlerFrame k s (pollGetByte s) := by
  cases h : s.mem.inb.contents with
  | nil => exact ⟨0, Nat.zero_le 1, by rw [pollGetByte_nil h]; exact .of_mem_eq rfl rfl rfl⟩
  | cons b bs => exact ⟨1, Nat.le_refl 1, by rw [pollGetByte_cons h]; exact takeByte_frame _ s⟩

theorem pollProcessErrorH_frame (s : State) : HandlerFrame 0 s (pollProcessErrorH s) := by
  rw [pollProcessErrorH, State.leaveErrorH_eq]
  cases s.handler.rwOpen
  · exact .of_mem_eq rfl rfl rfl
  · exact .of_app .reversed rfl rfl rfl

theorem handlerTransition_frame (s : State) : ∃ k ≤ 1, HandlerFrame k s (handlerTransition s) := by
  unfold handlerTransition
  cases hs : s.handler.state with
  | getByte => exact pollGetByte_frame s
  | idle =>
    refine ⟨0, Nat.zero_le 1, ?_⟩
    simp only [pollIdleH]
    split <;> exact .of_mem_eq rfl rfl rfl
  | waitForBytes =>
    refine ⟨0, Nat.zero_le 1, ?_⟩
    simp only [pollWaitForBytes]
    split <;> exact .of_mem_eq rfl rfl rfl
  | handleBlock => exact ⟨0, Nat.zero_le 1, pollHandleBlock_frame hs⟩
  | checkFinal => exact ⟨0, Nat.zero_le 1, pollCheckFinal_frame hs⟩
  | waitProcessed =>
    refine ⟨0, Nat.zero_le 1, ?_⟩
    simp only [pollWaitProcessed]
    split <;> exact .of_mem_eq rfl rfl rfl
  | completeReset => exact ⟨0, Nat.zero_le 1, .of_mem_eq rfl rfl rfl⟩
  | processError => exact ⟨0, Nat.zero_le 1, pollProcessErrorH_frame s⟩

/-- The state after `H.INIT` (R194), but for the answer. -/
def State.initH (s : State) : State :=
  (((s.setHandler (initHandler s.handler)).setHandlerHistory []).setApp
    (if s.mem.app.rw = true then s.mem.app.reverseRW else s.mem.app)).setIn s.mem.inb.clear

theorem State.initH_frame (s : State) : HandlerFrame s.mem.inb.contents.length s s.initH := by
  refine ⟨rfl, rfl, if s.mem.app.rw = true then s.mem.app.reverseRW else s.mem.app, ?_, by rw [List.drop_length]; rfl⟩
  split
  · exact .reversed
  · exact .keep

/-! ## What the units' properties read -/

/-- The state with everything blanked that the writer's properties do not read. -/
def State.writerView (s : State) : State :=
  { State.reset with
    params := s.params
    writer := { s.writer with
      composing := false, raw := State.reset.writer.raw, enc := State.reset.writer.enc, lastError := .none,
      regOut := false, regLsn := false }
    mem := { State.reset.mem with src := s.mem.src } }

/-- The state with everything blanked that the handler's properties do not read. -/
def State.handlerView (s : State) : State :=
  { State.reset with
    handler := { s.handler with
      blk := State.reset.handler.blk, cur := 0#8, lastError := .none, regApp := false, regLsn := false }
    mem := { State.reset.mem with app := { s.mem.app with contents := [], locked := false } } }

/-- `t` is `s` but for what no property of the buffers and of the units reads: answers, histories, flags, queues, turns,
registrations, last errors. -/
structure Unmoved (s t : State) : Prop where
  params : t.params = s.params
  mem : t.mem = s.mem
  writer : t.writerView = s.writerView
  handler : t.handlerView = s.handlerView

/-! ## The effect of an instruction -/

/-- What an instruction that goes on can do to the buffers and the units: every row of the table, by effect. -/
inductive Effect (s : State) : Instr → State → Prop
  | unmoved {i t} (h : Unmoved s t) : Effect s i t
  | wInit (hb : s.writer.busy = false) : Effect s .wInit (s.initW.respond .ok 0#32)
  | wWrite {b src} (h : s.mem.src.put s.params.srcCap b = some src) :
      Effect s (.wWrite b) ((s.setSrc src).respond .ok 0#32)
  | wClose : Effect s .wClose ((s.setWriter { s.writer with
      composing := false, queued := satInc s.params.qw s.writer.queued, triggered := true }).respond .ok 0#32)
  | wTrigger : Effect s .wTrigger ((s.setWriter { s.writer with triggered := true }).respond .ok 0#32)
  | wPoll (hi : s.writer.initialized = true) (hb : s.writer.busy = false) :
      Effect s .wPoll ((writerTransition s).respond .ok 0#32)
  | wSpin (hb : s.writer.busy = true) : Effect s .wSpin (emitBlock s)
  | block {b} (hs : s.writer.state = .emitBlockBytes) : Effect s (.block b) (emitBlock s)
  | frame {n bs out} (h : atFrame n bs s)
      (ho : out = (Buffer.putAll s.params.outCap s.mem.out (frameBytes n (bs.map WireBlock.toBlk8))).1) :
      Effect s (.frame n bs) (afterFrame s out)
  | hInit : Effect s .hInit (s.initH.respond .ok 0#32)
  | hSubmit {b inb} (h : s.mem.inb.put s.params.inCap b = some inb) :
      Effect s (.hSubmit b) ((s.setIn inb).respond .ok 0#32)
  | hPoll (hi : s.handler.initialized = true) : Effect s .hPoll ((handlerTransition s).respond .ok 0#32)
  | wire (b) (hi : s.handler.initialized = true)
      (hs : s.handler.state = .getByte ∨ s.handler.state = .handleBlock) :
      Effect s (decodeWireByte b) (handlerTransition s)
  | eOutget : Effect s .eOutget
      ((s.setOut { s.mem.out with contents := s.mem.out.contents.drop 1 }).respond .ok (getWord s.mem.out))
  | eAppget : Effect s .eAppget
      ((s.setApp { s.mem.app with contents := s.mem.app.contents.drop 1 }).respond .ok (getWord s.mem.app))

/-- An outcome at `s` of instruction `i` that goes on has an effect of `i`. -/
def HasEffect (s : State) (i : Instr) (o : Host.Outcome State Fault Refusal) : Prop :=
  ∀ t, o = .next t → Effect s i t

theorem hasEffect_next {s t : State} {i : Instr} (h : Effect s i t) : HasEffect s i (.next t) := by
  intro u hu
  cases hu
  exact h

theorem hasEffect_unmoved {s t : State} {i : Instr} (h : Unmoved s t) : HasEffect s i (.next t) :=
  hasEffect_next (.unmoved h)

theorem hasEffect_refused (s : State) (i : Instr) (r : Refusal) : HasEffect s i (.refused r) := by
  intro t h
  cases h

theorem hasEffect_hold (s : State) (i : Instr) : HasEffect s i (hold s) := hasEffect_unmoved ⟨rfl, rfl, rfl, rfl⟩

theorem hasEffect_failW (s : State) (i : Instr) (e : WriterError) (code : ResponseCode) :
    HasEffect s i (failW e code s) := hasEffect_unmoved ⟨rfl, rfl, rfl, rfl⟩

theorem hasEffect_writerPort {s : State} {i : Instr} {b : Bool} {k : Host.Outcome State Fault Refusal}
    (hk : HasEffect s i k) : HasEffect s i (writerPort b s k) := by
  intro t h
  obtain ⟨-, ⟨-, -, rfl⟩ | ⟨-, h⟩⟩ := writerPort_next h
  · exact hasEffect_hold s i _ rfl
  · exact hk t h

theorem hasEffect_handlerPort {s : State} {i : Instr} {k : Host.Outcome State Fault Refusal}
    (hk : HasEffect s i k) : HasEffect s i (handlerPort s k) :=
  fun t h => hk t (handlerPort_next h).2

theorem execWPoll_effect (s : State) : HasEffect s .wPoll (execWPoll s) := by
  intro t h
  obtain ⟨hi, ⟨-, -, rfl⟩ | ⟨hb | hb, h⟩⟩ := writerPort_next h
  · exact hasEffect_hold s .wPoll _ rfl
  · cases h
    exact .wPoll hi hb
  · cases hb

theorem execHPoll_effect (s : State) : HasEffect s .hPoll (execHPoll s) := by
  intro t h
  obtain ⟨hi, h⟩ := handlerPort_next h
  cases h
  exact .hPoll hi

theorem execWInit_effect (s : State) : HasEffect s .wInit (execWInit s) := by
  unfold execWInit
  split
  · exact hasEffect_hold s _
  · rename_i hb
    exact hasEffect_next (.wInit (by simpa using hb))

theorem execWOpen_effect (s : State) : HasEffect s .wOpen (execWOpen s) := by
  refine hasEffect_writerPort ?_
  split
  · exact hasEffect_failW s _ _ _
  · exact hasEffect_unmoved ⟨rfl, rfl, rfl, rfl⟩

theorem execWWrite_effect (b : Byte) (s : State) : HasEffect s (.wWrite b) (execWWrite b s) := by
  refine hasEffect_writerPort ?_
  split
  · exact hasEffect_failW s _ _ _
  · split
    · exact hasEffect_failW s _ _ _
    · rename_i src h
      exact hasEffect_next (.wWrite h)

theorem execWClose_effect (s : State) : HasEffect s .wClose (execWClose s) := by
  refine hasEffect_writerPort ?_
  split
  · exact hasEffect_failW s _ _ _
  · exact hasEffect_next .wClose

theorem execWTrigger_effect (s : State) : HasEffect s .wTrigger (execWTrigger s) := by
  refine hasEffect_writerPort ?_
  split
  · exact hasEffect_failW s _ _ _
  · exact hasEffect_next .wTrigger

theorem execWRegout_effect (s : State) : HasEffect s .wRegout (execWRegout s) := by
  refine hasEffect_writerPort ?_
  split
  · exact hasEffect_unmoved ⟨rfl, rfl, rfl, rfl⟩
  · exact hasEffect_refused s _ _

theorem execWReglsn_effect (s : State) : HasEffect s .wReglsn (execWReglsn s) := by
  refine hasEffect_writerPort ?_
  split
  · exact hasEffect_unmoved ⟨rfl, rfl, rfl, rfl⟩
  · exact hasEffect_refused s _ _

theorem execHSubmit_effect (b : Byte) (s : State) : HasEffect s (.hSubmit b) (execHSubmit b s) := by
  refine hasEffect_handlerPort ?_
  split
  · rename_i inb h
    exact hasEffect_next (.hSubmit h)
  · exact hasEffect_unmoved ⟨rfl, rfl, rfl, rfl⟩

theorem execHRegapp_effect (s : State) : HasEffect s .hRegapp (execHRegapp s) := by
  refine hasEffect_handlerPort ?_
  split
  · exact hasEffect_unmoved ⟨rfl, rfl, rfl, rfl⟩
  · exact hasEffect_refused s _ _

theorem execHReglsn_effect (s : State) : HasEffect s .hReglsn (execHReglsn s) := by
  refine hasEffect_handlerPort ?_
  split
  · exact hasEffect_unmoved ⟨rfl, rfl, rfl, rfl⟩
  · exact hasEffect_refused s _ _

theorem execWSpin_effect (s : State) : HasEffect s .wSpin (execWSpin s) := by
  unfold execWSpin
  split
  · exact hasEffect_next (.wSpin ‹_›)
  · exact hasEffect_hold s _

theorem execCodecEncode_effect (raw : List Byte) (s : State) :
    HasEffect s (.codecEncode raw) (execCodecEncode raw s) := by
  unfold execCodecEncode
  split
  · exact hasEffect_unmoved ⟨rfl, rfl, rfl, rfl⟩
  · exact hasEffect_refused s _ _

theorem execBlock_effect (b : WireBlock) (s : State) : HasEffect s (.block b) (execBlock b s) := by
  unfold execBlock
  split
  · exact hasEffect_refused s _ _
  · split
    · rename_i h
      exact hasEffect_next (.block h.1)
    · exact hasEffect_hold s _

theorem execFrame_effect (n : BitVec 4) (bs : List WireBlock) (s : State) :
    HasEffect s (.frame n bs) (execFrame n bs s) := by
  unfold execFrame
  split
  · exact hasEffect_refused s _ _
  · split
    · rename_i h
      split
      · rename_i out ho
        exact hasEffect_next (.frame h (congrArg Prod.fst ho).symm)
      · exact hasEffect_hold s _
    · exact hasEffect_hold s _

/-- A wire byte's row that goes on is held or is the poll that takes the byte. -/
theorem takenFromIn_effect (c : WireClass) (s : State) :
    HasEffect s c.instr (takenFromIn c.byte (takeByte c) s) := by
  intro t h
  obtain ⟨hi, ⟨hs, hb, rfl⟩ | rfl⟩ := takenFromIn_next h
  · have e : handlerTransition s = takeByte c s := by simp only [handlerTransition, hs, pollGetByte_of_head hb]
    rw [← decodeWireByte_byte, ← e]
    exact .wire c.byte hi (.inl hs)
  · exact hasEffect_hold s _ _ rfl

/-- A payload byte's row, besides, is the poll of its block phase. -/
theorem takenOrCollected_effect (c : WireClass) (s : State) :
    HasEffect s c.instr (takenOrCollected c.byte (takeByte c) s) := by
  unfold takenOrCollected
  split
  · rename_i h
    have e : handlerTransition s = pollHandleBlock s := by simp only [handlerTransition, h.2.1]
    rw [← decodeWireByte_byte, ← e]
    exact hasEffect_next (.wire c.byte h.1 (.inr h.2.1))
  · exact takenFromIn_effect c s

/-- Everything an instruction that goes on can do. -/
theorem exec_effect (i : Instr) (s : State) : HasEffect s i (exec i s) := by
  cases i with
  | wInit => exact execWInit_effect s
  | wPoll => exact execWPoll_effect s
  | wOpen => exact execWOpen_effect s
  | wWrite b => exact execWWrite_effect b s
  | wClose => exact execWClose_effect s
  | wTrigger => exact execWTrigger_effect s
  | wQcount => exact hasEffect_writerPort (hasEffect_unmoved ⟨rfl, rfl, rfl, rfl⟩)
  | wRegout => exact execWRegout_effect s
  | wReglsn => exact execWReglsn_effect s
  | wStatus => exact hasEffect_writerPort (hasEffect_unmoved ⟨rfl, rfl, rfl, rfl⟩)
  | hInit => exact hasEffect_next .hInit
  | hPoll => exact execHPoll_effect s
  | hSubmit b => exact execHSubmit_effect b s
  | hRegapp => exact execHRegapp_effect s
  | hReglsn => exact execHReglsn_effect s
  | hStatus => exact hasEffect_handlerPort (hasEffect_unmoved ⟨rfl, rfl, rfl, rfl⟩)
  | eOutget =>
    refine hasEffect_next ?_
    rw [afterGet_eq]
    exact .eOutget
  | eAppget =>
    refine hasEffect_next ?_
    rw [afterGet_eq]
    exact .eAppget
  | eClrapplsn => exact hasEffect_unmoved ⟨rfl, rfl, rfl, rfl⟩
  | eClrsendlsn => exact hasEffect_unmoved ⟨rfl, rfl, rfl, rfl⟩
  | wSpin => exact execWSpin_effect s
  | codecEncode raw => exact execCodecEncode_effect raw s
  | codecDecode blk => exact hasEffect_unmoved ⟨rfl, rfl, rfl, rfl⟩
  | wireData d => exact takenOrCollected_effect (.data d) s
  | wireMask m => exact takenOrCollected_effect (.mask m) s
  | wireSc1 n => exact takenFromIn_effect (.sc1 n) s
  | wireSc2 n => exact takenFromIn_effect (.sc2 n) s
  | wireEc1 n => exact takenFromIn_effect (.ec1 n) s
  | wireEc2 n => exact takenFromIn_effect (.ec2 n) s
  | frame n bs => exact execFrame_effect n bs s
  | block b => exact execBlock_effect b s

end Sys2Proof.Machine

/-!
SUPPORT. The family of 20_memory.md, part 2: what a reader can take from each buffer changes at its two ends only (R73,
R74), read off the frames of part 1.
-/

namespace Sys2Proof.Machine

theorem WriterFrame.contents {s t : State} (h : WriterFrame s t) :
    (∃ k, t.mem.src.contents = s.mem.src.contents.drop k) ∧ (∃ l, t.mem.out.contents = s.mem.out.contents ++ l) ∧
      t.mem.inb.contents = s.mem.inb.contents ∧ t.mem.app.contents = s.mem.app.contents := by
  obtain ⟨k, locked, l, hm⟩ := h.mem
  rw [hm]
  exact ⟨⟨k, rfl⟩, Buffer.putAll_contents _ l s.mem.out, rfl, rfl⟩

theorem emitBlock_src (s : State) : (emitBlock s).mem.src = s.mem.src := by
  obtain ⟨k, -, -, ⟨-, h⟩ | ⟨-, h⟩⟩ := emitBlock_cases s <;> rw [h] <;> rfl

theorem HandlerFrame.contents {k : Nat} {s t : State} (h : HandlerFrame k s t) :
    t.mem.src.contents = s.mem.src.contents ∧ t.mem.out.contents = s.mem.out.contents ∧
      t.mem.inb.contents = s.mem.inb.contents.drop k := by
  obtain ⟨app, -, hm⟩ := h.mem
  rw [hm]
  exact ⟨rfl, rfl, rfl⟩

/-- A handler's poll leaves `SRC` and `OUT`, and takes at most one byte from `IN`. -/
theorem handlerTransition_contents (s : State) :
    (handlerTransition s).mem.src.contents = s.mem.src.contents ∧
    (handlerTransition s).mem.out.contents = s.mem.out.contents ∧
    ((handlerTransition s).mem.inb.contents = s.mem.inb.contents ∨
      (handlerTransition s).mem.inb.contents = s.mem.inb.contents.drop 1) := by
  obtain ⟨k, hk, hf⟩ := handlerTransition_frame s
  obtain ⟨hsrc, hout, hin⟩ := hf.contents
  obtain rfl | rfl : k = 0 ∨ k = 1 := by omega
  · exact ⟨hsrc, hout, .inl hin⟩
  · exact ⟨hsrc, hout, .inr hin⟩

/-- Settles O60, by the effect of the instruction (`exec_effect`) and the frames of the two units. -/
theorem buffersAreFirstInFirstOut : Obligations.BuffersAreFirstInFirstOut := by
  intro i s t h
  cases exec_effect i s t h with
  | unmoved hu => rw [hu.mem]; exact ⟨.inl rfl, .inl rfl, .inl rfl⟩
  | wInit => exact ⟨.inr (.inr (.inr ⟨rfl, rfl⟩)), .inl rfl, .inl rfl⟩
  | @wWrite b src hput =>
    obtain e | e := Buffer.put_contents hput
    · exact ⟨.inl e, .inl rfl, .inl rfl⟩
    · exact ⟨.inr (.inl ⟨b, rfl, e⟩), .inl rfl, .inl rfl⟩
  | wClose => exact ⟨.inl rfl, .inl rfl, .inl rfl⟩
  | wTrigger => exact ⟨.inl rfl, .inl rfl, .inl rfl⟩
  | wPoll =>
    obtain ⟨hsrc, hout, hin, -⟩ := (writerTransition_frame s).contents
    exact ⟨.inr (.inr (.inl ⟨.inl rfl, hsrc⟩)), .inr (.inr ⟨.inl rfl, hout⟩), .inl hin⟩
  | wSpin =>
    obtain ⟨-, hout, hin, -⟩ := (emitBlock_frame s).contents
    exact ⟨.inl (by rw [emitBlock_src]), .inr (.inr ⟨.inr (.inl rfl), hout⟩), .inl hin⟩
  | @block b =>
    obtain ⟨-, hout, hin, -⟩ := (emitBlock_frame s).contents
    exact ⟨.inl (by rw [emitBlock_src]), .inr (.inr ⟨.inr (.inr (.inr ⟨b, rfl⟩)), hout⟩), .inl hin⟩
  | @frame n bs out _ ho =>
    obtain ⟨hsrc, hout, hin, -⟩ := (afterFrame_frame _ ho).contents
    exact ⟨.inr (.inr (.inl ⟨.inr ⟨n, bs, rfl⟩, hsrc⟩)), .inr (.inr ⟨.inr (.inr (.inl ⟨n, bs, rfl⟩)), hout⟩), .inl hin⟩
  | hInit => exact ⟨.inl rfl, .inl rfl, .inr (.inr (.inr ⟨rfl, rfl⟩))⟩
  | @hSubmit b inb hput =>
    obtain e | e := Buffer.put_contents hput
    · exact ⟨.inl rfl, .inl rfl, .inl e⟩
    · exact ⟨.inl rfl, .inl rfl, .inr (.inl ⟨b, rfl, e⟩)⟩
  | hPoll =>
    obtain ⟨hsrc, hout, hin | hin⟩ := handlerTransition_contents s
    · exact ⟨.inl hsrc, .inl hout, .inl hin⟩
    · exact ⟨.inl hsrc, .inl hout, .inr (.inr (.inl ⟨.inl rfl, hin⟩))⟩
  | wire b =>
    obtain ⟨hsrc, hout, hin | hin⟩ := handlerTransition_contents s
    · exact ⟨.inl hsrc, .inl hout, .inl hin⟩
    · exact ⟨.inl hsrc, .inl hout, .inr (.inr (.inl ⟨.inr ⟨b, rfl⟩, hin⟩))⟩
  | eOutget => exact ⟨.inl rfl, .inr (.inl ⟨rfl, rfl⟩), .inl rfl⟩
  | eAppget => exact ⟨.inl rfl, .inl rfl, .inl rfl⟩

/-! ## `APP` -/

/-- While a block is collected the reversible write is open (R161 (a), R146). -/
theorem HandlerInv.rw_of_handleBlock {s : State} (h : HandlerInv s) (hs : s.handler.state = .handleBlock) :
    s.mem.app.rw = true := by
  rw [← h.rw_eq]
  exact (h.open_iff (.inr (.inr hs))).2 (.inl (h.in_block hs))

/-- With the reversible write open where blocks are collected, only a commit changes what a consumer can read. -/
theorem AppMove.contents {cap : Nat} {h : Handler} {b b' : Buffer} (m : AppMove cap h b b')
    (hrw : h.state = .handleBlock → b.rw = true) :
    b'.contents = b.contents ∨
      (h.state = .checkFinal ∧ h.frameComplete ∧ b'.contents = b.contents ++ b.pending) := by
  cases m with
  | keep => exact .inl rfl
  | opened => exact .inl rfl
  | reversed => exact .inl rfl
  | collected l hs => exact .inl (Buffer.putAll_contents_of_rw l (hrw hs))
  | committed hs hc => exact .inr ⟨hs, hc, rfl⟩

theorem HandlerFrame.app_contents {k : Nat} {s t : State} (f : HandlerFrame k s t) (h : HandlerInv s) :
    t.mem.app.contents = s.mem.app.contents ∨
      (s.handler.state = .checkFinal ∧ s.handler.frameComplete ∧
        t.mem.app.contents = s.mem.app.contents ++ s.mem.app.pending) := by
  obtain ⟨app, m, hm⟩ := f.mem
  rw [hm]
  exact m.contents h.rw_of_handleBlock

/-- `H.INIT` keeps the committed bytes (R194). -/
theorem State.initH_app_contents (s : State) : s.initH.mem.app.contents = s.mem.app.contents := by
  simp only [State.initH, State.setIn_mem_app, State.setApp_mem_app]
  split <;> rfl

/-- The poll that commits raises `AppLsn` (R147). -/
theorem handlerTransition_appLsn_of_frameComplete {s : State} (hs : s.handler.state = .checkFinal)
    (hc : s.handler.frameComplete) : (handlerTransition s).appLsn = true := by
  simp only [handlerTransition, hs, pollCheckFinal_commit hc]
  rfl

/-- Settles O59: only the handler's poll and `E.APPGET` reach `APP`'s readable bytes (`exec_effect`), and of the poll's
moves only the commit (`AppMove.contents`). -/
theorem appGrowsOnlyByACommit : Obligations.AppGrowsOnlyByACommit := by
  intro i s t hinv h
  cases exec_effect i s t h with
  | unmoved hu => exact .inl (by rw [hu.mem])
  | wInit => exact .inl rfl
  | wWrite => exact .inl rfl
  | wClose => exact .inl rfl
  | wTrigger => exact .inl rfl
  | wPoll => exact .inl (writerTransition_frame s).contents.2.2.2
  | wSpin => exact .inl (emitBlock_frame s).contents.2.2.2
  | block => exact .inl (emitBlock_frame s).contents.2.2.2
  | frame => exact .inl rfl
  | hInit => exact .inl s.initH_app_contents
  | hSubmit => exact .inl rfl
  | hPoll =>
    obtain ⟨k, -, hf⟩ := handlerTransition_frame s
    obtain e | ⟨hs, hc, e⟩ := hf.app_contents hinv
    · exact .inl e
    · have hlsn := handlerTransition_appLsn_of_frameComplete hs hc
      obtain ⟨hp, ha, hb, hi⟩ := hc
      exact .inr (.inr ⟨rfl, hs, hp, ha, hb, hi, hlsn, e⟩)
  | wire b hi hs =>
    obtain ⟨k, -, hf⟩ := handlerTransition_frame s
    obtain e | ⟨hs', -⟩ := hf.app_contents hinv
    · exact .inl e
    · rw [hs'] at hs
      obtain hs | hs := hs <;> cases hs
  | eOutget => exact .inl rfl
  | eAppget => exact .inr (.inl ⟨rfl, rfl⟩)

end Sys2Proof.Machine

/-!
SUPPORT. The family of 20_memory.md, part 3: the machine's invariant. The two frames of part 1 keep the buffers' form
(R55) and the other unit's properties; each transition keeps its own unit's (R131, R161).
-/

namespace Sys2Proof.Machine

/-! ## The buffers' form -/

theorem WriterFrame.wf {s t : State} (f : WriterFrame s t) (h : s.mem.wf s.params = true) :
    t.mem.wf t.params = true := by
  obtain ⟨k, locked, l, hm⟩ := f.mem
  rw [hm, f.params]
  have hsrc := Memory.wf_lock_src locked (Memory.wf_drop_src k h)
  exact Memory.wf_putAll_out
    (m := { s.mem with src := { s.mem.src with contents := s.mem.src.contents.drop k, locked := locked } }) l hsrc

theorem AppMove.wf {p : Params} {h : Handler} {m : Memory} {app : Buffer} (move : AppMove p.appCap h m.app app)
    (hwf : m.wf p = true) : ({ m with app := app } : Memory).wf p = true := by
  cases move with
  | keep => exact hwf
  | opened => exact Memory.wf_open_app hwf
  | reversed => exact Memory.wf_reverse_app hwf
  | collected l => exact Memory.wf_putAll_app l hwf
  | committed => exact Memory.wf_commit_app hwf

theorem HandlerFrame.wf {k : Nat} {s t : State} (f : HandlerFrame k s t) (h : s.mem.wf s.params = true) :
    t.mem.wf t.params = true := by
  obtain ⟨app, move, hm⟩ := f.mem
  rw [hm, f.params]
  exact Memory.wf_drop_inb k (AppMove.wf move h)

/-! ## The units' properties read the units' views -/

theorem WriterInv.view {s : State} (h : WriterInv s) : WriterInv s.writerView := { h with }

theorem WriterInv.of_view {s : State} (h : WriterInv s.writerView) : WriterInv s := { h with }

theorem WriterInv.congr {s t : State} (h : WriterInv s) (e : t.writerView = s.writerView) : WriterInv t :=
  WriterInv.of_view (by rw [e]; exact h.view)

theorem HandlerInv.view {s : State} (h : HandlerInv s) : HandlerInv s.handlerView := { h with }

theorem HandlerInv.of_view {s : State} (h : HandlerInv s.handlerView) : HandlerInv s := { h with }

theorem HandlerInv.congr {s t : State} (h : HandlerInv s) (e : t.handlerView = s.handlerView) : HandlerInv t :=
  HandlerInv.of_view (by rw [e]; exact h.view)

theorem Unmoved.inv {s t : State} (u : Unmoved s t) (h : Inv s) : Inv t where
  params_wf := by rw [u.params]; exact h.params_wf
  mem_wf := by rw [u.params, u.mem]; exact h.mem_wf
  writer := h.writer.congr u.writer
  handler := h.handler.congr u.handler

theorem WriterFrame.handlerView {s t : State} (f : WriterFrame s t) : t.handlerView = s.handlerView := by
  obtain ⟨k, locked, l, hm⟩ := f.mem
  simp only [State.handlerView, f.handler, hm]

theorem HandlerFrame.writerView {k : Nat} {s t : State} (f : HandlerFrame k s t) : t.writerView = s.writerView := by
  obtain ⟨app, move, hm⟩ := f.mem
  simp only [State.writerView, f.writer, f.params, hm]

/-- What the writer's side does keeps the invariant if it keeps the writer's properties. -/
theorem WriterFrame.inv {s t : State} (f : WriterFrame s t) (h : Inv s) (hw : WriterInv t) : Inv t where
  params_wf := by rw [f.params]; exact h.params_wf
  mem_wf := f.wf h.mem_wf
  writer := hw
  handler := h.handler.congr f.handlerView

/-- What the handler's side does keeps the invariant if it keeps the handler's properties. -/
theorem HandlerFrame.inv {k : Nat} {s t : State} (f : HandlerFrame k s t) (h : Inv s) (hh : HandlerInv t) : Inv t where
  params_wf := by rw [f.params]; exact h.params_wf
  mem_wf := f.wf h.mem_wf
  writer := h.writer.congr f.writerView
  handler := hh

/-! ## The writer's properties -/

theorem WriterInv.not_busy {s : State} (h : WriterInv s) (hs : s.writer.state ≠ .emitBlockBytes) :
    s.writer.busy = false := by
  cases hb : s.writer.busy with
  | false => rfl
  | true => exact absurd (h.busy_imp hb).1 hs

theorem WriterInv.initialized {s : State} (h : WriterInv s) (hs : s.writer.state ≠ .idle) :
    s.writer.initialized = true := by
  cases hi : s.writer.initialized with
  | true => rfl
  | false => exact absurd (h.uninit hi).1 hs

theorem blocksToFill_le (s : State) : blocksToFill s ≤ s.writer.n.toNat - s.writer.bidx.toNat := by
  unfold blocksToFill
  split <;> omega

theorem blocksToFill_of_ne {s : State} (h : s.writer.state ≠ .emitBlockBytes) :
    blocksToFill s = s.writer.n.toNat - s.writer.bidx.toNat := if_neg h

theorem blocksToFill_emitBlockBytes {s : State} (h : s.writer.state = .emitBlockBytes) :
    blocksToFill s = s.writer.n.toNat - (s.writer.bidx.toNat + 1) := if_pos h

theorem WriterInv.remaining_zero {s : State} (h : WriterInv s) (hn : s.writer.bidx = s.writer.n) :
    s.writer.remaining = 0#7 := by
  have hrem := h.remaining_le
  have hle := blocksToFill_le s
  rw [hn, Nat.sub_self] at hle
  exact BitVec.eq_of_toNat_eq (show s.writer.remaining.toNat = 0 by omega)

/-- Outside the frame nothing is counted. -/
theorem WriterInv.counts_zero {s : State} (h : WriterInv s) (hs : s.writer.state.sending = false)
    (hr : s.writer.state ≠ .reset) :
    s.writer.n = 0#4 ∧ s.writer.bidx = 0#4 ∧ s.writer.remaining = 0#7 := by
  have hn := h.n_zero hs hr
  have hle := h.bidx_le
  rw [hn] at hle
  have hb : s.writer.bidx = 0#4 := BitVec.eq_of_toNat_eq (Nat.le_zero.1 hle)
  exact ⟨hn, hb, h.remaining_zero (hb.trans hn.symm)⟩

theorem WState.sending_of_draining {q : WState} (h : q.draining = true) : q.sending = true := by
  revert h
  cases q <;> decide

theorem WState.locks_of_draining {q : WState} (h : q.draining = true) : q.locks = true := by
  revert h
  cases q <;> decide

theorem WState.after_unlock {q : WState} (h : q.blocksSent = true) (hu : q ≠ .unlockBuffer) :
    q.locks = false ∧ q.draining = false ∧ (q.sending = true ∨ q = .reset) := by
  revert h hu
  cases q <;> decide

/-- A state outside the frame, with nothing counted. -/
theorem WriterInv.of_counts_zero {s : State} (hs : s.writer.state.sending = false) (hb : s.writer.busy = false)
    (hn : s.writer.n = 0#4) (hbidx : s.writer.bidx = 0#4) (hrem : s.writer.remaining = 0#7)
    (hl : s.mem.src.locked = s.writer.state.locks) (harm : s.writer.state.armed = true → s.writer.triggered = true)
    (hq : s.writer.queued < 2 ^ s.params.qw) (hbyte : s.writer.byteIdx.toNat ≤ 8)
    (hi : s.writer.initialized = false → s.writer.state = .idle) : WriterInv s where
  lock_iff := hl
  busy_imp := by simp [hb]
  n_pos := by simp [hs]
  n_zero _ _ := hn
  all_sent _ := hbidx.trans hn.symm
  bidx_le := by simp [hbidx]
  remaining_eq hd := by
    rw [WState.sending_of_draining hd] at hs
    cases hs
  remaining_le := by simp [hrem]
  armed_imp := harm
  queued_lt := hq
  byteIdx_le := hbyte
  block_left hp := by
    obtain hp | hp | hp | hp | hp := hp <;> rw [hp] at hs <;> cases hs
  uninit hu := ⟨hi hu, hb⟩

/-- A state before the next block is filled, with a block left. -/
theorem WriterInv.of_preparing {s : State}
    (hs : s.writer.state = .emitStart1 ∨ s.writer.state = .emitStart2 ∨ s.writer.state = .initBlock ∨
      s.writer.state = .fillBlock)
    (hi : s.writer.initialized = true) (hb : s.writer.busy = false) (hl : s.mem.src.locked = true)
    (hleft : s.writer.bidx.toNat < s.writer.n.toNat) (hfill : s.writer.remaining.toNat = s.mem.src.fill)
    (hrem : s.writer.remaining.toNat ≤ 6 * (s.writer.n.toNat - s.writer.bidx.toNat))
    (harm : s.writer.triggered = true) (hq : s.writer.queued < 2 ^ s.params.qw)
    (hbyte : s.writer.byteIdx.toNat ≤ 8) : WriterInv s where
  lock_iff := by obtain e | e | e | e := hs <;> rw [hl, e] <;> rfl
  busy_imp := by simp [hb]
  n_pos _ hn := by simp [hn] at hleft
  n_zero hn := by obtain e | e | e | e := hs <;> rw [e] at hn <;> cases hn
  all_sent hd := by obtain e | e | e | e := hs <;> rw [e] at hd <;> cases hd
  bidx_le := Nat.le_of_lt hleft
  remaining_eq _ := hfill
  remaining_le := by
    rw [blocksToFill_of_ne (by obtain e | e | e | e := hs <;> rw [e] <;> decide)]
    exact hrem
  armed_imp _ := harm
  queued_lt := hq
  byteIdx_le := hbyte
  block_left _ := hleft
  uninit hu := by rw [hi] at hu; cases hu

/-- A state after `UnlockBuffer` and before the frame is finished: all blocks are sent. -/
theorem WriterInv.of_sent {s : State} (hs : s.writer.state.blocksSent = true) (hu : s.writer.state ≠ .unlockBuffer)
    (hi : s.writer.initialized = true) (hb : s.writer.busy = false) (hl : s.mem.src.locked = false)
    (hn : s.writer.state.sending = true → s.writer.n ≠ 0#4) (hbidx : s.writer.bidx = s.writer.n)
    (hrem : s.writer.remaining = 0#7) (harm : s.writer.triggered = true) (hq : s.writer.queued < 2 ^ s.params.qw)
    (hbyte : s.writer.byteIdx.toNat ≤ 8) : WriterInv s := by
  obtain ⟨hlocks, hdrain, hsend⟩ := WState.after_unlock hs hu
  exact
  { lock_iff := hl.trans hlocks.symm
    busy_imp := fun e => absurd (hb.symm.trans e) nofun
    n_pos := hn
    n_zero := fun e hr => absurd e (by simpa using hsend.resolve_right hr)
    all_sent := fun _ => hbidx
    bidx_le := by rw [hbidx]
    remaining_eq := fun e => absurd (hdrain.symm.trans e) nofun
    remaining_le := by simp [hrem]
    armed_imp := fun _ => harm
    queued_lt := hq
    byteIdx_le := hbyte
    block_left := fun hp => by obtain e | e | e | e | e := hp <;> rw [e] at hs <;> cases hs
    uninit := fun e => absurd (hi.symm.trans e) nofun }

/-- From one state before a block is filled to the next. -/
theorem WriterInv.advance {s : State} (h : WriterInv s) {q : WState}
    (hs : s.writer.state = .emitStart1 ∨ s.writer.state = .emitStart2 ∨ s.writer.state = .initBlock)
    (hq : q = .emitStart2 ∨ q = .initBlock ∨ q = .fillBlock) : WriterInv (s.gotoW q) := by
  have hne : s.writer.state ≠ .emitBlockBytes := by obtain e | e | e := hs <;> rw [e] <;> decide
  refine .of_preparing (.inr hq) (h.initialized ?_) (h.not_busy hne) (h.lock_iff.trans ?_) (h.block_left ?_)
    (h.remaining_eq ?_) (blocksToFill_of_ne hne ▸ h.remaining_le) (h.armed_imp ?_) h.queued_lt h.byteIdx_le
  all_goals obtain e | e | e := hs <;> rw [e] <;> decide

/-- From one state after `UnlockBuffer` to the next, up to `Reset`. -/
theorem WriterInv.advance_sent {s : State} (h : WriterInv s) {q : WState}
    (hs : s.writer.state = .emitEnd1 ∨ s.writer.state = .emitEnd2 ∨ s.writer.state = .signalListener ∨
      s.writer.state = .waitAck)
    (hq : q = .emitEnd2 ∨ q = .signalListener ∨ q = .waitAck ∨ q = .reset) : WriterInv (s.gotoW q) := by
  have hbidx : s.writer.bidx = s.writer.n := h.all_sent (by obtain e | e | e | e := hs <;> rw [e] <;> rfl)
  refine .of_sent ?_ ?_ (h.initialized ?_) (h.not_busy ?_) (h.lock_iff.trans ?_) (fun _ => h.n_pos ?_) hbidx
    (h.remaining_zero hbidx) (h.armed_imp ?_) h.queued_lt h.byteIdx_le
  case refine_1 => obtain rfl | rfl | rfl | rfl := hq <;> rfl
  case refine_2 => obtain rfl | rfl | rfl | rfl := hq <;> exact WState.noConfusion
  all_goals obtain e | e | e | e := hs <;> rw [e] <;> decide

section

variable {s : State} (h : WriterInv s)

include h

theorem pollIdleW_writerInv (hi : s.writer.initialized = true) (hs : s.writer.state = .idle) :
    WriterInv (pollIdleW s) := by
  unfold pollIdleW
  split
  · obtain ⟨hn, hbidx, hrem⟩ := h.counts_zero (by rw [hs]; rfl) (by rw [hs]; decide)
    exact .of_counts_zero rfl (h.not_busy (by rw [hs]; decide)) hn hbidx hrem (h.lock_iff.trans (by rw [hs]; rfl)) nofun
      h.queued_lt h.byteIdx_le (by simp [hi])
  · exact h

theorem pollWaitForTrigger_writerInv (hs : s.writer.state = .waitForTrigger) :
    WriterInv (pollWaitForTrigger s) := by
  unfold pollWaitForTrigger
  split
  · rename_i ht
    obtain ⟨hn, hbidx, hrem⟩ := h.counts_zero (by rw [hs]; rfl) (by rw [hs]; decide)
    exact .of_counts_zero rfl (h.not_busy (by rw [hs]; decide)) hn hbidx hrem (h.lock_iff.trans (by rw [hs]; rfl))
      (fun _ => ht) h.queued_lt h.byteIdx_le (by simp [h.initialized, hs])
  · exact h

theorem pollLockBuffer_writerInv (hs : s.writer.state = .lockBuffer) : WriterInv (pollLockBuffer s) := by
  rw [pollLockBuffer_eq]
  obtain ⟨hn, hbidx, hrem⟩ := h.counts_zero (by rw [hs]; rfl) (by rw [hs]; decide)
  exact .of_counts_zero rfl (h.not_busy (by rw [hs]; decide)) hn hbidx hrem rfl
    (fun _ => h.armed_imp (by rw [hs]; rfl)) h.queued_lt h.byteIdx_le (by simp [h.initialized, hs])

theorem pollComputeBlockCount_writerInv (hs : s.writer.state = .computeBlockCount) :
    WriterInv (pollComputeBlockCount s) := by
  obtain ⟨hn, hbidx, hrem⟩ := h.counts_zero (by rw [hs]; rfl) (by rw [hs]; decide)
  have hb := h.not_busy (by rw [hs]; decide)
  have hi := h.initialized (by rw [hs]; decide)
  have harm := h.armed_imp (by rw [hs]; rfl)
  have hlock : s.mem.src.locked = true := h.lock_iff.trans (by rw [hs]; rfl)
  simp only [pollComputeBlockCount]
  split
  · exact .of_counts_zero rfl hb hn hbidx hrem hlock (fun _ => harm) h.queued_lt h.byteIdx_le
      (fun e => absurd (hi.symm.trans e) nofun)
  · rename_i hmax
    split
    · exact .of_counts_zero rfl hb hn hbidx hrem rfl (fun _ => harm) h.queued_lt h.byteIdx_le (by simp [hi])
    · rename_i hmin
      have hn : (BitVec.ofNat 4 (blockCount s.mem.src.fill)).toNat = blockCount s.mem.src.fill := by
        rw [BitVec.toNat_ofNat]
        omega
      have hf : (BitVec.ofNat 7 s.mem.src.fill).toNat = s.mem.src.fill := by
        rw [BitVec.toNat_ofNat]
        unfold blockCount at hmax
        omega
      have hle : s.mem.src.fill ≤ 6 * blockCount s.mem.src.fill := by
        unfold blockCount
        omega
      refine .of_preparing (.inl rfl) hi hb hlock ?left hf ?rem harm h.queued_lt h.byteIdx_le
      case left => exact (Nat.pos_of_ne_zero hmin).trans_eq hn.symm
      case rem => exact hf.le.trans (hle.trans_eq (congrArg (6 * ·) hn.symm))

theorem pollInitBlock_writerInv (hs : s.writer.state = .initBlock) : WriterInv (pollInitBlock s) :=
  have hb : s.writer.busy = false := h.not_busy (by rw [hs]; decide)
  { h.advance (q := .fillBlock) (.inr (.inr hs)) (.inr (.inr rfl)) with
    busy_imp := fun e => absurd (hb.symm.trans e) nofun
    byteIdx_le := Nat.zero_le 8 }

theorem pollFillBlock_writerInv (hs : s.writer.state = .fillBlock) : WriterInv (pollFillBlock s) := by
  have hb : s.writer.busy = false := h.not_busy (by rw [hs]; decide)
  have hfill := h.remaining_eq (by rw [hs]; rfl)
  have hleft := h.block_left (.inr (.inl hs))
  have hrem := h.remaining_le
  rw [blocksToFill_of_ne (by rw [hs]; decide)] at hrem
  have hk : (s.writer.remaining - BitVec.ofNat 7 (min 6 s.writer.remaining.toNat)).toNat =
      s.writer.remaining.toNat - min 6 s.writer.remaining.toNat := by
    have hlt := s.writer.remaining.isLt
    rw [BitVec.toNat_sub, BitVec.toNat_ofNat]
    omega
  exact
  { lock_iff := h.lock_iff.trans (by rw [hs]; rfl)
    busy_imp := fun e => absurd (hb.symm.trans e) nofun
    n_pos := fun _ => h.n_pos (by rw [hs]; rfl)
    n_zero := nofun
    all_sent := nofun
    bidx_le := h.bidx_le
    remaining_eq := fun _ => by
      refine hk.trans ?_
      rw [hfill]
      exact (List.length_drop (l := s.mem.src.contents)).symm.trans (by rw [← hfill]; rfl)
    remaining_le := by
      refine hk.le.trans ?_
      rw [blocksToFill_emitBlockBytes rfl]
      simp only [pollFillBlock, State.setWriter_writer]
      omega
    armed_imp := fun _ => h.armed_imp (by rw [hs]; rfl)
    queued_lt := h.queued_lt
    byteIdx_le := Nat.zero_le 8
    block_left := fun _ => hleft
    uninit := fun e => absurd ((h.initialized (by rw [hs]; decide)).symm.trans e) nofun }

theorem emitBlock_writerInv (hs : s.writer.state = .emitBlockBytes) : WriterInv (emitBlock s) := by
  have hleft := h.block_left (.inr (.inr (.inl hs)))
  have hrem := h.remaining_le
  have hfill := h.remaining_eq (by rw [hs]; rfl)
  have hi := h.initialized (by rw [hs]; decide)
  have harm := h.armed_imp (by rw [hs]; rfl)
  have hlock : s.mem.src.locked = true := h.lock_iff.trans (by rw [hs]; rfl)
  have hbyte := h.byteIdx_le
  rw [blocksToFill_emitBlockBytes hs] at hrem
  have hlen : (s.writer.enc.toList.drop s.writer.byteIdx.toNat).length = 8 - s.writer.byteIdx.toNat :=
    List.length_drop
  obtain ⟨k, hk, -, hcase⟩ := emitBlock_cases s
  rw [hlen] at hk hcase
  have hidx : (s.writer.byteIdx + BitVec.ofNat 4 k).toNat = s.writer.byteIdx.toNat + k := by
    rw [BitVec.toNat_add, BitVec.toNat_ofNat]
    omega
  have hbidx : (s.writer.bidx + 1#4).toNat = s.writer.bidx.toNat + 1 := by
    rw [BitVec.toNat_add_of_lt] <;> simp; omega
  obtain ⟨hlt, e⟩ | ⟨-, e⟩ := hcase <;> rw [e]
  case inl =>
    exact
    { h with
      busy_imp := fun _ => ⟨hs, by simp only [State.setWriter_writer]; omega⟩
      byteIdx_le := by simp only [State.setWriter_writer]; omega
      uninit := fun e => absurd (hi.symm.trans e) nofun }
  case inr =>
    by_cases hmore : s.writer.bidx + 1#4 < s.writer.n
    · have hmore' : s.writer.bidx.toNat + 1 < s.writer.n.toNat := hbidx ▸ hmore
      rw [if_pos hmore]
      refine .of_preparing (.inr (.inr (.inl rfl))) hi rfl hlock (hbidx.trans_lt hmore') hfill ?_ harm h.queued_lt ?_
      all_goals simp only [State.setWriter_writer]; omega
    · have hlast : s.writer.bidx + 1#4 = s.writer.n := by
        refine BitVec.eq_of_toNat_eq ?_
        rw [BitVec.lt_def] at hmore
        omega
      rw [if_neg hmore, hlast]
      exact
      { lock_iff := hlock
        busy_imp := nofun
        n_pos := fun _ => h.n_pos (by rw [hs]; rfl)
        n_zero := nofun
        all_sent := fun _ => rfl
        bidx_le := Nat.le_refl _
        remaining_eq := fun _ => hfill
        remaining_le := hrem.trans (by rw [← hbidx, hlast, Nat.sub_self]; exact Nat.zero_le _)
        armed_imp := fun _ => harm
        queued_lt := h.queued_lt
        byteIdx_le := by simp only [State.setWriter_writer]; omega
        block_left := nofun
        uninit := fun e => absurd (hi.symm.trans e) nofun }

theorem pollUnlockBuffer_writerInv (hs : s.writer.state = .unlockBuffer) : WriterInv (pollUnlockBuffer s) := by
  have hbidx : s.writer.bidx = s.writer.n := h.all_sent (by rw [hs]; rfl)
  exact .of_sent rfl nofun (h.initialized (by rw [hs]; decide)) (h.not_busy (by rw [hs]; decide)) rfl
    (fun _ => h.n_pos (by rw [hs]; rfl)) hbidx (h.remaining_zero hbidx) (h.armed_imp (by rw [hs]; rfl)) h.queued_lt
    h.byteIdx_le

theorem afterFrame_writerInv (hs : s.writer.state = .emitStart1) (out : Buffer) : WriterInv (afterFrame s out) := by
  have hrem := h.remaining_le
  rw [blocksToFill_of_ne (by rw [hs]; decide)] at hrem
  have hall : min (6 * s.writer.n.toNat) s.writer.remaining.toNat = s.writer.remaining.toNat := by omega
  refine .of_sent rfl nofun (h.initialized (by rw [hs]; decide)) (h.not_busy (by rw [hs]; decide)) rfl
    (fun _ => h.n_pos (by rw [hs]; rfl)) rfl ?_ (h.armed_imp (by rw [hs]; rfl)) h.queued_lt (Nat.le_refl 8)
  simp [afterFrame, hall]

theorem pollReset_writerInv (hs : s.writer.state = .reset) : WriterInv (pollReset s) :=
  .of_counts_zero rfl (h.not_busy (by rw [hs]; decide)) rfl rfl rfl (h.lock_iff.trans (by rw [hs]; rfl)) nofun
    ((Nat.sub_le _ 1).trans_lt h.queued_lt) (Nat.zero_le 8) (fun _ => rfl)

theorem pollProcessErrorW_writerInv (hs : s.writer.state = .processError) : WriterInv (pollProcessErrorW s) :=
  .of_counts_zero rfl (h.not_busy (by rw [hs]; decide)) rfl rfl rfl rfl nofun
    ((Nat.sub_le _ 1).trans_lt h.queued_lt) (Nat.zero_le 8) (fun _ => rfl)

/-- A change of `OUT` is none of the writer's properties' concern. -/
theorem pollEmitControl_writerInv (code : BitVec 4) {q : WState} (hq : WriterInv (s.gotoW q)) :
    WriterInv (pollEmitControl code q s) := by
  unfold pollEmitControl
  split
  · exact h
  · exact hq.congr rfl

theorem pollWaitAck_writerInv (hs : s.writer.state = .waitAck) : WriterInv (pollWaitAck s) := by
  unfold pollWaitAck
  split
  · exact h.advance_sent (.inr (.inr (.inr hs))) (.inr (.inr (.inr rfl)))
  · exact h

theorem writerTransition_writerInv (hi : s.writer.initialized = true) : WriterInv (writerTransition s) := by
  unfold writerTransition
  cases hs : s.writer.state with
  | idle => exact pollIdleW_writerInv h hi hs
  | waitForTrigger => exact pollWaitForTrigger_writerInv h hs
  | lockBuffer => exact pollLockBuffer_writerInv h hs
  | computeBlockCount => exact pollComputeBlockCount_writerInv h hs
  | emitStart1 => exact pollEmitControl_writerInv h _ (h.advance (.inl hs) (.inl rfl))
  | emitStart2 => exact pollEmitControl_writerInv h _ (h.advance (.inr (.inl hs)) (.inr (.inl rfl)))
  | initBlock => exact pollInitBlock_writerInv h hs
  | fillBlock => exact pollFillBlock_writerInv h hs
  | emitBlockBytes => exact emitBlock_writerInv h hs
  | unlockBuffer => exact pollUnlockBuffer_writerInv h hs
  | emitEnd1 => exact pollEmitControl_writerInv h _ (h.advance_sent (.inl hs) (.inl rfl))
  | emitEnd2 => exact pollEmitControl_writerInv h _ (h.advance_sent (.inr (.inl hs)) (.inr (.inl rfl)))
  | signalListener => exact (h.advance_sent (.inr (.inr (.inl hs))) (.inr (.inr (.inl rfl)))).congr rfl
  | waitAck => exact pollWaitAck_writerInv h hs
  | reset => exact pollReset_writerInv h hs
  | processError => exact pollProcessErrorW_writerInv h hs

/-- An accepted byte: `SRC` was not locked, so no frame is being drained (R64, R131 (d)). -/
theorem put_src_writerInv {b : Byte} {src : Buffer} (hput : s.mem.src.put s.params.srcCap b = some src) :
    WriterInv (s.setSrc src) := by
  obtain ⟨hl, hl'⟩ := Buffer.put_unlocked hput
  have hlocks : s.writer.state.locks = false := h.lock_iff.symm.trans hl
  exact
  { h with
    lock_iff := hl'.trans hlocks.symm
    remaining_eq := fun hd => absurd (hlocks.symm.trans (WState.locks_of_draining hd)) nofun }

/-- `W.CLOSE` and `W.TRIGGER` arm the writer (R105, R106). -/
theorem arm_writerInv {q : Nat} (hq : q < 2 ^ s.params.qw) :
    WriterInv (s.setWriter { s.writer with queued := q, triggered := true }) :=
  { h with armed_imp := fun _ => rfl, queued_lt := hq }

end

theorem initW_writerInv (s : State) : WriterInv s.initW :=
  .of_counts_zero rfl rfl rfl rfl rfl rfl nofun (Nat.two_pow_pos _) (Nat.zero_le 8) (fun _ => rfl)

/-! ## The handler's properties -/

/-- Between frames: nothing seen, the reversible write closed. -/
theorem HandlerInv.of_idle {s : State} (hs : s.handler.state = .idle) (hacc : s.handler.acc = accNone)
    (hb : s.handler.blocks = 0#4) (hi : s.handler.i = 0#3) (hp : s.handler.pend = .none)
    (hopen : s.handler.rwOpen = false) (hrw : s.mem.app.rw = false) : HandlerInv s := by
  constructor <;> simp [hs, hacc, hb, hi, hp, hopen, hrw, accLegal]

/-- What holds of the registers whatever error is pending. -/
structure HandlerForm (s : State) : Prop where
  rw_eq : s.handler.rwOpen = s.mem.app.rw
  blocks_le : s.handler.blocks.toNat ≤ s.handler.frameN.toNat
  collecting : s.handler.i ≠ 0#3 → s.handler.blocks.toNat < s.handler.frameN.toNat
  initialized : s.handler.initialized = true

theorem HandlerForm.setAcc {s : State} (h : HandlerForm s) (a : BitVec 4) :
    HandlerForm (s.setHandler { s.handler with acc := a }) := { h with }

/-- What the handler's properties say at the sample point (R147), of the registers but `H.state`. -/
structure SamplePoint (s : State) : Prop extends HandlerForm s where
  pending_len : s.handler.rwOpen = true → s.handler.pend = .none →
    s.mem.app.pending.length = 6 * s.handler.blocks.toNat
  sampled : s.handler.pend = .none → accLegal s.handler.acc = true →
    (s.handler.rwOpen = true ↔
      s.handler.acc = accStarted ∨ s.handler.acc = accPrefinish ∨ s.handler.acc = accFinished)

theorem HandlerInv.initialized {s : State} (h : HandlerInv s) (hs : s.handler.state ≠ .idle) :
    s.handler.initialized = true := by
  cases hi : s.handler.initialized with
  | true => rfl
  | false => exact absurd (h.uninit hi) hs

theorem HandlerInv.form {s : State} (h : HandlerInv s) (hs : s.handler.state ≠ .idle) : HandlerForm s :=
  ⟨h.rw_eq, h.blocks_le, h.collecting, h.initialized hs⟩

theorem HandlerForm.pend {s : State} (h : HandlerForm s) {e : HandlerError} (he : e ≠ .none) :
    SamplePoint (s.pendH e) :=
  { h with
    pending_len := fun _ hp => absurd hp he
    sampled := fun hp => absurd hp he }

theorem SamplePoint.gotoCheckFinal {s : State} (h : SamplePoint s) : HandlerInv (s.gotoH .checkFinal) :=
  { h with
    closed := nofun
    open_iff := nofun
    no_pend := fun hs => absurd rfl hs
    acc_legal := fun hs => absurd rfl hs
    in_block := nofun
    not_finished := nofun
    idle_acc := nofun
    sampled := fun _ => h.sampled
    error_pends := nofun
    uninit := fun hi => absurd (h.initialized.symm.trans hi) nofun }

theorem SamplePoint.enterError {s : State} (h : SamplePoint s) (hp : s.handler.pend ≠ .none) :
    HandlerInv s.enterErrorH :=
  { h with
    closed := nofun
    open_iff := nofun
    no_pend := fun _ hs => absurd rfl hs
    acc_legal := fun _ hs => absurd rfl hs
    in_block := nofun
    not_finished := nofun
    idle_acc := nofun
    sampled := nofun
    error_pends := fun _ => hp
    uninit := fun hi => absurd (h.initialized.symm.trans hi) nofun }

/-- At the sample point with a legal accumulator and no error, the handler waits for or takes the next byte. -/
theorem SamplePoint.gotoWaiting {s : State} (h : SamplePoint s) (hp : s.handler.pend = .none)
    (hl : accLegal s.handler.acc = true) (hf : s.handler.acc ≠ accFinished) {q : HState}
    (hq : q = .waitForBytes ∨ q = .getByte) : HandlerInv (s.gotoH q) := by
  obtain rfl | rfl := hq <;> exact
    { h with
      closed := nofun
      open_iff := fun _ => (h.sampled hp hl).trans (by simp [hf])
      no_pend := fun _ _ => hp
      acc_legal := fun _ _ => hl
      in_block := nofun
      not_finished := fun _ => hf
      idle_acc := nofun
      sampled := nofun
      error_pends := nofun
      uninit := fun hi => absurd (h.initialized.symm.trans hi) nofun }

/-- With `STARTED` and no error, the handler goes on to the block phase. -/
theorem SamplePoint.gotoHandleBlock {s : State} (h : SamplePoint s) (hp : s.handler.pend = .none)
    (ha : s.handler.acc = accStarted) : HandlerInv (s.gotoH .handleBlock) :=
  have hl : accLegal s.handler.acc = true := by rw [ha]; rfl
  { h with
    closed := nofun
    open_iff := fun _ => (h.sampled hp hl).trans (by simp [ha])
    no_pend := fun _ _ => hp
    acc_legal := fun _ _ => hl
    in_block := fun _ => ha
    not_finished := nofun
    idle_acc := nofun
    sampled := nofun
    error_pends := nofun
    uninit := fun hi => absurd (h.initialized.symm.trans hi) nofun }

/-- A change of the byte collected, and of a byte of the block, is none of the sample point's concern. -/
theorem SamplePoint.setBlk {s : State} (h : SamplePoint s) (blk : Blk8) :
    SamplePoint (s.setHandler { s.handler with blk := blk }) := { h with }

section

variable {s : State} (h : HandlerInv s)

include h

/-- Before `CheckFinal` the handler's properties say as much as there. -/
theorem HandlerInv.samplePoint (hs : s.handler.state = .waitForBytes ∨ s.handler.state = .getByte ∨
    s.handler.state = .handleBlock ∨ s.handler.state = .checkFinal) : SamplePoint s where
  toHandlerForm := h.form (by obtain e | e | e | e := hs <;> rw [e] <;> decide)
  pending_len := h.pending_len
  sampled hp hl := by
    obtain e | e | e | e := hs
    · simpa [h.not_finished (.inl e)] using h.open_iff (.inl e)
    · simpa [h.not_finished (.inr e)] using h.open_iff (.inr (.inl e))
    · simpa [h.in_block e] using h.open_iff (.inr (.inr e))
    · exact h.sampled e hp hl

/-- In the states between a byte and the next nothing is pending and the accumulator is legal. -/
theorem HandlerInv.calm (hs : s.handler.state ≠ .checkFinal) (hs' : s.handler.state ≠ .processError) :
    s.handler.pend = .none ∧ accLegal s.handler.acc = true :=
  ⟨h.no_pend hs hs', h.acc_legal hs hs'⟩

theorem pollIdleH_handlerInv (hi : s.handler.initialized = true) (hs : s.handler.state = .idle) :
    HandlerInv (pollIdleH s) := by
  unfold pollIdleH
  split
  · have hacc := h.idle_acc hs
    obtain ⟨hp, hl⟩ := h.calm (by rw [hs]; decide) (by rw [hs]; decide)
    refine SamplePoint.gotoWaiting ⟨⟨h.rw_eq, h.blocks_le, h.collecting, hi⟩, h.pending_len, fun _ _ => ?_⟩ hp hl
      (by rw [hacc]; decide) (.inl rfl)
    rw [h.closed (.inl hs), hacc]
    decide
  · exact h.congr rfl

theorem pollWaitForBytes_handlerInv (hs : s.handler.state = .waitForBytes) : HandlerInv (pollWaitForBytes s) := by
  unfold pollWaitForBytes
  split
  · obtain ⟨hp, hl⟩ := h.calm (by rw [hs]; decide) (by rw [hs]; decide)
    exact (h.samplePoint (.inl hs)).gotoWaiting hp hl (h.not_finished (.inl hs)) (.inr rfl)
  · exact h

theorem takePayload_handlerInv (hs : s.handler.state = .getByte) (b : Byte) : HandlerInv (takePayload b s) := by
  have hin : HandlerInv s.takeIn := h.congr rfl
  have hsp := hin.samplePoint (.inr (.inl hs))
  simp only [takePayload]
  split
  · rename_i ha
    exact (hsp.gotoHandleBlock (h.calm (by rw [hs]; decide) (by rw [hs]; decide)).1 ha).congr rfl
  · split <;> exact (hsp.pend (by decide)).gotoCheckFinal

/-- A control byte leads to the sample point if its own rule does, where the accumulator was legal and is changed to a
legal one. -/
theorem ctrl_samplePoint (hs : s.handler.state = .getByte) (k : Nat) {accept : State → State}
    (ha : accLegal (s.handler.acc ||| 1#4 <<< k) = true → s.handler.acc ||| 1#4 <<< k ≠ s.handler.acc →
      SamplePoint (accept (s.setHandler { s.handler with acc := s.handler.acc ||| 1#4 <<< k }))) :
    SamplePoint (ctrl k accept s) := by
  have hsp := h.samplePoint (.inr (.inl hs))
  obtain ⟨hl, e⟩ | ⟨-, -, e⟩ | ⟨hl, hn, e⟩ := ctrl_cases k accept s <;> rw [e]
  · exact { hsp with sampled := fun _ hl' => absurd (hl.symm.trans hl') nofun }
  · obtain ⟨e, he, heq⟩ := repeatedCode_cases k s.handler.acc
      (s.setHandler { s.handler with acc := s.handler.acc ||| (1#4 <<< k) })
    rw [heq]
    exact (hsp.toHandlerForm.setAcc _).pend he
  · exact ha hl hn

end

/-! Where each control code is accepted, by the accumulator's legal values (R37, R151). -/

theorem acc_of_sc1 (a : BitVec 4) : accLegal a = true → accLegal (a ||| 1#4 <<< 0) = true → a ||| 1#4 <<< 0 ≠ a →
    a = accNone ∧ a ||| 1#4 <<< 0 = accPrestart := by
  revert a; decide

theorem acc_of_sc2 (a : BitVec 4) : accLegal a = true → accLegal (a ||| 1#4 <<< 1) = true → a ||| 1#4 <<< 1 ≠ a →
    a = accPrestart ∧ a ||| 1#4 <<< 1 = accStarted := by
  revert a; decide

theorem acc_of_ec1 (a : BitVec 4) : accLegal a = true → accLegal (a ||| 1#4 <<< 2) = true → a ||| 1#4 <<< 2 ≠ a →
    a = accStarted ∧ a ||| 1#4 <<< 2 = accPrefinish := by
  revert a; decide

theorem acc_of_ec2 (a : BitVec 4) : accLegal a = true → accLegal (a ||| 1#4 <<< 3) = true → a ||| 1#4 <<< 3 ≠ a →
    a = accPrefinish ∧ a ||| 1#4 <<< 3 = accFinished := by
  revert a; decide

section

variable {s : State}

/-- A new frame's count: the reversible write is closed until the second start code. -/
theorem acceptSc1_samplePoint (c : BitVec 4) (h : HandlerForm s) (hopen : s.handler.rwOpen = false)
    (ha : s.handler.acc = accPrestart) : SamplePoint (acceptSc1 c s) := by
  unfold acceptSc1
  split
  · exact h.pend (by decide)
  · exact
    { h with
      blocks_le := Nat.zero_le _
      collecting := fun hi => absurd rfl hi
      pending_len := fun ho => absurd (hopen.symm.trans ho) nofun
      sampled := fun _ _ => by
        simp only [State.setHandler_handler, hopen, ha]
        decide }

/-- The second start code opens the reversible write with nothing pending. -/
theorem acceptSc2_samplePoint (c : BitVec 4) (h : HandlerForm s) (ha : s.handler.acc = accStarted) :
    SamplePoint (acceptSc2 c s) := by
  unfold acceptSc2
  split
  · exact h.pend (by decide)
  · exact
    { h with
      rw_eq := rfl
      blocks_le := Nat.zero_le _
      collecting := fun hi => absurd rfl hi
      pending_len := fun _ _ => rfl
      sampled := fun _ _ => ⟨fun _ => .inl ha, fun _ => rfl⟩ }

theorem acceptEc1_samplePoint (c : BitVec 4) (h : SamplePoint s) : SamplePoint (acceptEc1 c s) := by
  unfold acceptEc1
  split
  · exact h.pend (by decide)
  · split
    · exact h.pend (by decide)
    · exact h

theorem acceptEc2_samplePoint (c : BitVec 4) (h : SamplePoint s) : SamplePoint (acceptEc2 c s) := by
  unfold acceptEc2
  split
  · exact h.pend (by decide)
  · exact h

end

section

variable {s : State} (h : HandlerInv s)

include h

theorem HandlerInv.rwOpen_of_getByte (hs : s.handler.state = .getByte) :
    s.handler.rwOpen = true ↔ s.handler.acc = accStarted ∨ s.handler.acc = accPrefinish :=
  h.open_iff (.inr (.inl hs))

/-- Taking a byte leads to the sample point or to the block phase. -/
theorem takeByte_handlerInv (hs : s.handler.state = .getByte) (c : WireClass) : HandlerInv (takeByte c s) := by
  have hin : HandlerInv s.takeIn := h.congr rfl
  have hsp := hin.samplePoint (.inr (.inl hs))
  have hopen := hin.rwOpen_of_getByte hs
  have hlegal := (h.calm (by rw [hs]; decide) (by rw [hs]; decide)).2
  cases c with
  | data d => exact takePayload_handlerInv h hs _
  | mask m => exact takePayload_handlerInv h hs _
  | sc1 n =>
    refine (ctrl_samplePoint hin hs 0 fun hl hn => ?_).gotoCheckFinal
    obtain ⟨hold, hnew⟩ := acc_of_sc1 s.takeIn.handler.acc hlegal hl hn
    rw [hnew]
    refine acceptSc1_samplePoint n (hsp.toHandlerForm.setAcc _) ?_ rfl
    rw [hold] at hopen
    exact Bool.eq_false_iff.2 fun ho => absurd (hopen.1 ho) (by decide)
  | sc2 n =>
    refine (ctrl_samplePoint hin hs 1 fun hl hn => ?_).gotoCheckFinal
    rw [(acc_of_sc2 s.takeIn.handler.acc hlegal hl hn).2]
    exact acceptSc2_samplePoint n (hsp.toHandlerForm.setAcc _) rfl
  | ec1 n =>
    refine (ctrl_samplePoint hin hs 2 fun hl hn => ?_).gotoCheckFinal
    obtain ⟨hold, hnew⟩ := acc_of_ec1 s.takeIn.handler.acc hlegal hl hn
    rw [hnew]
    exact acceptEc1_samplePoint n
      { hsp with sampled := fun _ _ => ⟨fun _ => .inr (.inl rfl), fun _ => hopen.2 (.inl hold)⟩ }
  | ec2 n =>
    refine (ctrl_samplePoint hin hs 3 fun hl hn => ?_).gotoCheckFinal
    obtain ⟨hold, hnew⟩ := acc_of_ec2 s.takeIn.handler.acc hlegal hl hn
    rw [hnew]
    exact acceptEc2_samplePoint n
      { hsp with sampled := fun _ _ => ⟨fun _ => .inr (.inr rfl), fun _ => hopen.2 (.inr hold)⟩ }

theorem pollGetByte_handlerInv (hs : s.handler.state = .getByte) : HandlerInv (pollGetByte s) := by
  cases e : s.mem.inb.contents with
  | nil => rw [pollGetByte_nil e]; exact h
  | cons b bs => rw [pollGetByte_cons e]; exact takeByte_handlerInv h hs _

end

section

variable {s : State} (h : SamplePoint s)

include h

theorem boundary_samplePoint (b : Byte) : SamplePoint (boundary b s) := by
  unfold boundary
  split
  · exact h.pend (by decide)
  · rename_i hne
    exact { h with collecting := fun _ => lt_of_le_of_ne h.blocks_le fun e => hne (BitVec.eq_of_toNat_eq e) }

/-- A whole block: six bytes more are pending for one block more. -/
theorem blockDone_samplePoint (hi : s.handler.i ≠ 0#3) (hopen : s.handler.rwOpen = true)
    (hp : s.handler.pend = .none) : SamplePoint (blockDone s) := by
  have hlt := h.collecting hi
  have hform : HandlerForm (s.setHandler { s.handler with i := 0#3 }) :=
    { h.toHandlerForm with collecting := fun hi => absurd rfl hi }
  obtain e | ⟨r, ⟨-, e⟩ | ⟨hall, e⟩⟩ := blockDone_cases s <;> rw [e]
  · exact hform.pend (by decide)
  · refine HandlerForm.pend ?_ (by decide)
    exact { hform with rw_eq := h.rw_eq.trans (Buffer.putAll_rw _ _ _).symm }
  · have hblocks : (s.handler.blocks + 1#4).toNat = s.handler.blocks.toNat + 1 := by
      rw [BitVec.toNat_add, BitVec.toNat_ofNat]
      omega
    have hpending := Buffer.putAll_pending_of_all (h.rw_eq.symm.trans hopen) hall
    exact
    { h with
      rw_eq := h.rw_eq.trans (Buffer.putAll_rw _ _ _).symm
      blocks_le := hblocks.trans_le hlt
      collecting := fun hi => absurd rfl hi
      pending_len := fun _ _ => by
        refine (congrArg List.length hpending).trans ?_
        rw [List.length_append, h.pending_len hopen hp]
        exact (Nat.mul_succ 6 _).symm.trans (congrArg (6 * ·) hblocks.symm) }

theorem dataByte_samplePoint (b : Byte) (hopen : s.handler.rwOpen = true) (hp : s.handler.pend = .none) :
    SamplePoint (dataByte b s) := by
  simp only [dataByte]
  split
  · exact h.pend (by decide)
  · rename_i hi
    split
    · exact blockDone_samplePoint (h.setBlk _) hi hopen hp
    · exact { h with collecting := fun _ => h.collecting hi }

end

section

variable {s : State} (h : HandlerInv s)

include h

theorem pollHandleBlock_handlerInv (hs : s.handler.state = .handleBlock) : HandlerInv (pollHandleBlock s) := by
  have hsp := h.samplePoint (.inr (.inr (.inl hs)))
  have hcollect : SamplePoint (collectCur s) := by
    unfold collectCur
    split
    · exact boundary_samplePoint hsp _
    · exact dataByte_samplePoint hsp _ (h.rw_eq.trans (h.rw_of_handleBlock hs))
        (h.no_pend (by rw [hs]; decide) (by rw [hs]; decide))
  rw [pollHandleBlock_eq]
  split
  · exact hcollect.enterError ‹_›
  · exact hcollect.gotoCheckFinal

theorem pollCheckFinal_handlerInv (hs : s.handler.state = .checkFinal) : HandlerInv (pollCheckFinal s) := by
  have hsp := h.samplePoint (.inr (.inr (.inr hs)))
  obtain ⟨e, he, heq⟩ | ⟨⟨hp, ha, -⟩, heq⟩ | ⟨⟨hp, hl, ha⟩, heq⟩ := pollCheckFinal_cases s <;> rw [heq]
  · exact (hsp.pend he).enterError he
  · exact
    { rw_eq := rfl
      closed := fun _ => rfl
      open_iff := nofun
      no_pend := fun _ _ => hp
      acc_legal := fun _ _ => congrArg accLegal ha
      blocks_le := h.blocks_le
      pending_len := nofun
      collecting := h.collecting
      in_block := nofun
      not_finished := nofun
      idle_acc := nofun
      sampled := nofun
      error_pends := nofun
      uninit := fun hi => absurd (hsp.initialized.symm.trans hi) nofun }
  · exact hsp.gotoWaiting hp hl ha (.inl rfl)

theorem pollWaitProcessed_handlerInv (hs : s.handler.state = .waitProcessed) : HandlerInv (pollWaitProcessed s) := by
  have hinit := h.initialized (by rw [hs]; decide)
  obtain ⟨hp, hl⟩ := h.calm (by rw [hs]; decide) (by rw [hs]; decide)
  unfold pollWaitProcessed
  split
  · exact
    { h with
      closed := fun _ => h.closed (.inr (.inl hs))
      open_iff := nofun
      no_pend := fun _ _ => hp
      acc_legal := fun _ _ => hl
      in_block := nofun
      not_finished := nofun
      idle_acc := nofun
      sampled := nofun
      error_pends := nofun
      uninit := fun hi => absurd (hinit.symm.trans hi) nofun }
  · exact h

theorem pollCompleteReset_handlerInv (hs : s.handler.state = .completeReset) : HandlerInv (pollCompleteReset s) :=
  have hopen := h.closed (.inr (.inr hs))
  .of_idle rfl rfl rfl rfl rfl hopen (h.rw_eq.symm.trans hopen)

theorem pollProcessErrorH_handlerInv : HandlerInv (pollProcessErrorH s) := by
  rw [pollProcessErrorH, State.leaveErrorH_eq]
  refine .of_idle rfl rfl rfl rfl rfl rfl ?_
  dsimp only
  split
  · rfl
  · rename_i hopen
    exact h.rw_eq.symm.trans (by simpa using hopen)

theorem handlerTransition_handlerInv (hi : s.handler.initialized = true) : HandlerInv (handlerTransition s) := by
  unfold handlerTransition
  cases hs : s.handler.state with
  | idle => exact pollIdleH_handlerInv h hi hs
  | waitForBytes => exact pollWaitForBytes_handlerInv h hs
  | getByte => exact pollGetByte_handlerInv h hs
  | handleBlock => exact pollHandleBlock_handlerInv h hs
  | checkFinal => exact pollCheckFinal_handlerInv h hs
  | waitProcessed => exact pollWaitProcessed_handlerInv h hs
  | completeReset => exact pollCompleteReset_handlerInv h hs
  | processError => exact pollProcessErrorH_handlerInv h

end

theorem initH_handlerInv (s : State) : HandlerInv s.initH := by
  refine .of_idle rfl rfl rfl rfl rfl rfl ?_
  simp only [State.initH, State.setIn_mem_app, State.setApp_mem_app]
  split
  · rfl
  · rename_i hrw
    simpa using hrw

/-! ## Every instruction, every step -/

/-- Every instruction keeps the invariant. -/
theorem exec_inv {i : Instr} {s t : State} (h : Inv s) (he : exec i s = .next t) : Inv t := by
  cases exec_effect i s t he with
  | unmoved hu => exact hu.inv h
  | wInit => exact (s.initW_frame.respond _ _).inv h ((initW_writerInv s).congr rfl)
  | wWrite hput =>
    exact
    { params_wf := h.params_wf
      mem_wf := Memory.wf_put_src h.mem_wf hput
      writer := (put_src_writerInv h.writer hput).congr rfl
      handler := h.handler.congr rfl }
  | wClose =>
    have hq : satInc s.params.qw s.writer.queued < 2 ^ s.params.qw :=
      (Nat.min_le_right _ _).trans_lt (Nat.sub_lt (Nat.two_pow_pos _) Nat.one_pos)
    exact WriterFrame.inv (s := s) (.of_mem_eq rfl rfl rfl) h ((arm_writerInv h.writer hq).congr rfl)
  | wTrigger =>
    exact WriterFrame.inv (s := s) (.of_mem_eq rfl rfl rfl) h ((arm_writerInv h.writer h.writer.queued_lt).congr rfl)
  | wPoll hi =>
    exact ((writerTransition_frame s).respond _ _).inv h ((writerTransition_writerInv h.writer hi).congr rfl)
  | wSpin hb => exact (emitBlock_frame s).inv h (emitBlock_writerInv h.writer (h.writer.busy_imp hb).1)
  | block hs => exact (emitBlock_frame s).inv h (emitBlock_writerInv h.writer hs)
  | frame hat hout => exact (afterFrame_frame _ hout).inv h (afterFrame_writerInv h.writer hat.1 _)
  | hInit => exact (s.initH_frame.respond _ _).inv h ((initH_handlerInv s).congr rfl)
  | hSubmit hput =>
    exact
    { params_wf := h.params_wf
      mem_wf := Memory.wf_put_inb h.mem_wf hput
      writer := h.writer.congr rfl
      handler := h.handler.congr rfl }
  | hPoll hi =>
    obtain ⟨k, -, hf⟩ := handlerTransition_frame s
    exact (hf.respond _ _).inv h ((handlerTransition_handlerInv h.handler hi).congr rfl)
  | wire b hi =>
    obtain ⟨k, -, hf⟩ := handlerTransition_frame s
    exact hf.inv h (handlerTransition_handlerInv h.handler hi)
  | eOutget =>
    exact
    { params_wf := h.params_wf
      mem_wf := Memory.wf_drop_out 1 h.mem_wf
      writer := h.writer.congr rfl
      handler := h.handler.congr rfl }
  | eAppget =>
    exact
    { params_wf := h.params_wf
      mem_wf := Memory.wf_drop_app 1 h.mem_wf
      writer := h.writer.congr rfl
      handler := h.handler.congr rfl }

/-- The agents' queues and turns are none of the invariant's concern. -/
theorem inv_setTurns {s : State} (h : Inv s) (rest : List Turn) : Inv (s.setTurns rest) :=
  Unmoved.inv (s := s) ⟨rfl, rfl, rfl, rfl⟩ h

theorem inv_retire {s : State} (h : Inv s) (a : Agent) : Inv (s.retire a) := Unmoved.inv (s := s) ⟨rfl, rfl, rfl, rfl⟩ h

/-- Settles O56: a step is no change, a turn passed, or an instruction's (`step_cases`), and every instruction keeps the
invariant (`exec_inv`). -/
theorem stepKeepsTheInvariant : Obligations.StepKeepsTheInvariant := by
  intro s t h hstep
  obtain ⟨-, rfl⟩ | ⟨rest, -, he⟩ | ⟨a, rest, -, -, rfl⟩ | ⟨a, rest, w, ws, i, u, -, -, -, he, hu⟩ := step_cases hstep
  · exact h
  · exact exec_inv (inv_setTurns h rest) he
  · exact inv_setTurns h rest
  · have hinv := exec_inv (inv_setTurns h rest) he
    obtain ⟨-, rfl⟩ | ⟨-, rfl⟩ := hu
    · exact hinv
    · exact inv_retire hinv a

/-- R8, R9: what the platform chose is in range. -/
theorem config_params_wf : Config.params.wf = true := by
  simp [Params.wf, Config.params]

/-- Settles O55: nothing is counted, seen or buffered yet (`WriterInv.of_counts_zero`, `HandlerInv.of_idle`). -/
theorem launchStateMeetsTheInvariant : Obligations.LaunchStateMeetsTheInvariant where
  params_wf := config_params_wf
  mem_wf := Memory.wf_reset
  writer := .of_counts_zero rfl rfl rfl rfl rfl rfl nofun (Nat.two_pow_pos _) (Nat.zero_le 8) (fun _ => rfl)
  handler := .of_idle rfl rfl rfl rfl rfl rfl rfl

end Sys2Proof.Machine

/-!
SUPPORT. The family of 30_encoding.md: the three encodings one after the other, each read back from what it writes and
written back from what it reads (command words, R86 to R88; wire bytes, R84; blocks and frames, R79 to R81), the ranges
of the byte classes, and the rows of the wire tied to the polls that treat or emit the bytes.
-/

namespace Sys2Proof

/-! ## Command words (R86 to R88) -/

/-- What the decoder says of the word with opcode `op` and argument `arg`: every row of R86's table, by its kind. -/
inductive CommandRow (op arg : Byte) : Except CommandError Instr → Prop
  /-- A command without argument, under the opcode the encoder gives it. -/
  | plain {i} (he : encode i = .command (commandWord op 0x00#8)) (hwf : i.wf = true) (hr : ¬ reservedOp op.toNat)
      (hw : op.toNat ≠ 0x04) (hh : op.toNat ≠ 0x13) : CommandRow op arg (noArgument arg i)
  | wWrite (h : op = 0x04#8) : CommandRow op arg (.ok (.wWrite arg))
  | hSubmit (h : op = 0x13#8) : CommandRow op arg (.ok (.hSubmit arg))
  | reserved (h : reservedOp op.toNat) : CommandRow op arg (.error .reservedOpcode)

theorem decodeCommand_row (op arg : Byte) : CommandRow op arg (decodeCommand (commandWord op arg)) := by
  obtain ⟨k, hk, rfl⟩ : ∃ k < 256, op = BitVec.ofNat 8 k := ⟨op.toNat, op.isLt, by simp⟩
  have hop : (BitVec.ofNat 8 k).toNat = k := by simpa using hk
  simp only [decodeCommand, commandWord_op, commandWord_arg, hop]
  split
  case h_4 => exact .wWrite rfl
  case h_13 => exact .hSubmit rfl
  case h_21 =>
    refine .reserved ?_
    rw [hop, reservedOp]
    simp only [imp_false] at *
    omega
  all_goals exact .plain rfl rfl (by simp [reservedOp]) (by decide) (by decide)

theorem noArgument_ok {arg : Byte} {i j : Instr} (h : noArgument arg i = .ok j) : arg = 0x00#8 ∧ i = j := by
  unfold noArgument at h
  split at h
  · cases h
    exact ⟨‹_›, rfl⟩
  · cases h

/-- A word that is a command is the word the encoder writes for it. -/
theorem encode_of_decodeCommand {w : CommandWord} {i : Instr} (h : decodeCommand w = .ok i) :
    encode i = .command w ∧ i.wf = true := by
  rw [← commandWord_halves w] at h ⊢
  generalize w.extractLsb' 8 8 = op, w.extractLsb' 0 8 = arg at h ⊢
  have hrow := decodeCommand_row op arg
  rw [h] at hrow
  generalize hr : (Except.ok i : Except CommandError Instr) = r at hrow
  cases hrow with
  | plain he hwf =>
    obtain ⟨rfl, rfl⟩ := noArgument_ok hr.symm
    exact ⟨he, hwf⟩
  | wWrite hop =>
    cases hr
    subst hop
    exact ⟨rfl, rfl⟩
  | hSubmit hop =>
    cases hr
    subst hop
    exact ⟨rfl, rfl⟩
  | reserved => cases hr

theorem decodeCommand_of_encode {w : CommandWord} {i : Instr} (h : encode i = .command w) :
    decodeCommand w = .ok i := by
  cases i <;> cases h
  case wWrite b => simp [decodeCommand, commandWord_op, commandWord_arg]
  case hSubmit b => simp [decodeCommand, commandWord_op, commandWord_arg]
  all_goals rfl

theorem commandWord_op_toNat (w : CommandWord) : (w.extractLsb' 8 8 : Byte).toNat = w.toNat / 256 := by
  have h := w.isLt
  simp only [BitVec.extractLsb'_toNat, Nat.shiftRight_eq_div_pow]
  omega

theorem commandWord_arg_toNat (w : CommandWord) : (w.extractLsb' 0 8 : Byte).toNat = w.toNat % 256 := by
  simp only [BitVec.extractLsb'_toNat, Nat.shiftRight_eq_div_pow]
  omega

/-! ## Wire bytes (R84) -/

theorem toNat_append_eq_add {v w : Nat} (x : BitVec v) (y : BitVec w) : (x ++ y).toNat = x.toNat * 2 ^ w + y.toNat := by
  rw [BitVec.toNat_append, ← Nat.shiftLeft_add_eq_or_of_lt y.isLt, Nat.shiftLeft_eq]

/-- The first value of a class's range. -/
def WireClass.base : WireClass → Nat
  | .data _ => 0x00
  | .mask _ => 0x80
  | .sc1 _ => 0xC0
  | .sc2 _ => 0xD0
  | .ec1 _ => 0xE0
  | .ec2 _ => 0xF0

/-- The field a class carries, as a number. -/
def WireClass.field : WireClass → Nat
  | .data d => d.toNat
  | .mask m => m.toNat
  | .sc1 n => n.toNat
  | .sc2 n => n.toNat
  | .ec1 n => n.toNat
  | .ec2 n => n.toNat

theorem WireClass.byte_toNat (c : WireClass) : c.byte.toNat = c.base + c.field := by
  cases c <;> simp only [byte, controlByte, toNat_append_eq_add] <;> rfl

theorem classify_of_toNat {b : Byte} {c : WireClass} (h : b.toNat = c.base + c.field) : classify b = c := by
  rw [BitVec.eq_of_toNat_eq (h.trans c.byte_toNat.symm), classify_byte]

/-- The `2 ^ w` bytes from `base` on are one class, if `mk` gives a field of `w` bits the class with that base. -/
theorem exists_classify_eq {w base : Nat} {mk : BitVec w → WireClass} {b : Byte}
    (hmk : ∀ f, (mk f).base + (mk f).field = base + f.toNat) (lo : base ≤ b.toNat) (hi : b.toNat < base + 2 ^ w) :
    ∃ f, classify b = mk f ∧ f.toNat = b.toNat - base := by
  have hf : (BitVec.ofNat w (b.toNat - base)).toNat = b.toNat - base := by
    rw [BitVec.toNat_ofNat, Nat.mod_eq_of_lt (by omega)]
  refine ⟨_, classify_of_toNat ?_, hf⟩
  rw [hmk, hf]
  omega

theorem WireClass.instr_wf (c : WireClass) : c.instr.wf = true := by
  cases c <;> rfl

theorem decodeWire_byte (c : WireClass) : decodeWire [c.byte] = .ok c.instr :=
  congrArg Except.ok (decodeWireByte_byte c)

/-! ## Blocks (R81) -/

theorem exists_of_bind_eq_ok {ε α β : Type} {x : Except ε α} {f : α → Except ε β} {b : β} (h : x >>= f = .ok b) :
    ∃ a, x = .ok a ∧ f a = .ok b := by
  cases x with
  | error e => cases h
  | ok a => exact ⟨a, rfl, h⟩

theorem dataField_ok {b : Byte} {d : BitVec 7} (h : dataField b = .ok d) : 0#1 ++ d = b := by
  have key : ∀ b : Byte, b.getLsbD 7 = false → 0#1 ++ b.extractLsb' 0 7 = b := by decide
  unfold dataField at h
  split at h <;> cases h
  exact key b ‹_›

theorem maskByte_of_field : ∀ b : Byte, b.extractLsb' 6 2 = 0b10#2 → 0b10#2 ++ b.extractLsb' 0 6 = b := by
  decide

/-- Bytes that are a block are the bytes of that block. -/
theorem toBlk8_of_decodeBlk8 {bytes : Blk8} {b : WireBlock} (h : decodeBlk8 bytes = .ok b) : b.toBlk8 = bytes := by
  unfold decodeBlk8 at h
  split at h
  · rename_i hm
    obtain ⟨d0, h0, h⟩ := exists_of_bind_eq_ok h
    obtain ⟨d1, h1, h⟩ := exists_of_bind_eq_ok h
    obtain ⟨d2, h2, h⟩ := exists_of_bind_eq_ok h
    obtain ⟨d3, h3, h⟩ := exists_of_bind_eq_ok h
    obtain ⟨d4, h4, h⟩ := exists_of_bind_eq_ok h
    obtain ⟨d5, h5, h⟩ := exists_of_bind_eq_ok h
    cases h
    simp only [WireBlock.toBlk8, maskByte_of_field _ hm, dataField_ok h0, dataField_ok h1, dataField_ok h2,
      dataField_ok h3, dataField_ok h4, dataField_ok h5]
  · cases h

theorem decodeWire_block (b : WireBlock) : decodeWire b.toBlk8.toList = .ok (.block b) := by
  have h : decodeBlk8 ⟨b.toBlk8.mask, b.toBlk8.checksum, b.toBlk8.d0, b.toBlk8.d1, b.toBlk8.d2, b.toBlk8.d3,
    b.toBlk8.d4, b.toBlk8.d5⟩ = .ok b := decodeBlk8_toBlk8 b
  simp only [Blk8.toList, decodeWire, h]

/-! ## Frames (R79, R80) -/

/-- Bytes read as `k` blocks and a rest are the bytes of `k` blocks, then that rest. -/
theorem bytes_of_decodeBlocks (k : Nat) (l : List Byte) : ∀ {bs : List WireBlock} {tail : List Byte},
    decodeBlocks k l = .ok (bs, tail) →
      bs.length = k ∧ l = (bs.map WireBlock.toBlk8).flatMap Blk8.toList ++ tail := by
  induction k, l using decodeBlocks.induct with
  | case1 rest =>
    intro bs tail h
    cases h
    exact ⟨rfl, rfl⟩
  | case2 k mk c d0 d1 d2 d3 d4 d5 rest e hb =>
    intro bs tail h
    simp only [decodeBlocks, hb] at h
    cases h
  | case3 k mk c d0 d1 d2 d3 d4 d5 rest b hb e he =>
    intro bs tail h
    simp only [decodeBlocks, hb, he] at h
    cases h
  | case4 k mk c d0 d1 d2 d3 d4 d5 rest b hb bs rest' hr ih =>
    intro bs' tail h
    simp only [decodeBlocks, hb, hr] at h
    cases h
    obtain ⟨hlen, hrest⟩ := ih hr
    refine ⟨congrArg (· + 1) hlen, ?_⟩
    rw [List.map_cons, List.flatMap_cons, toBlk8_of_decodeBlk8 hb, List.append_assoc, ← hrest]
    rfl
  | case5 k l hshort =>
    intro bs tail h
    rw [decodeBlocks] at h
    · cases h
    · exact hshort

theorem controlByte_of_code {b : Byte} {code : BitVec 4} (h : b.extractLsb' 4 4 = code) :
    controlByte code (b.extractLsb' 0 4) = b := by
  have key : ∀ b : Byte, controlByte (b.extractLsb' 4 4) (b.extractLsb' 0 4) = b := by decide
  rw [← h, key]

/-- Bytes that are a frame are the bytes of that frame. -/
theorem bytes_of_decodeFrame {l : List Byte} {i : Instr} (h : decodeFrame l = .ok i) :
    encode i = .wire l ∧ i.wf = true := by
  unfold decodeFrame at h
  split at h
  case h_2 => cases h
  rename_i s1 s2 rest
  dsimp only at h
  split at h
  case isTrue => cases h
  rename_i hs1
  obtain ⟨hcode, hn⟩ := not_or.1 hs1
  split at h
  case isTrue => cases h
  rename_i hs2
  split at h
  case h_1 => cases h
  rename_i bs tail hbs
  split at h <;> cases h
  rename_i htail
  obtain ⟨hlen, hrest⟩ := bytes_of_decodeBlocks _ _ hbs
  refine ⟨?_, by simp [Instr.wf, hn, hlen]⟩
  rw [encode, frameBytes, controlByte_of_code (not_not.1 hcode), ← not_not.1 hs2, ← htail, List.append_assoc, ← hrest]
  rfl

theorem decodeFrame_frameBytes {n : BitVec 4} {bs : List WireBlock} (hn : n ≠ 0#4) (hlen : bs.length = n.toNat) :
    decodeFrame (frameBytes n (bs.map WireBlock.toBlk8)) = .ok (.frame n bs) := by
  have hbs := decodeBlocks_toList bs [controlByte 0xE#4 n, controlByte 0xF#4 n]
  rw [hlen] at hbs
  simp [decodeFrame, frameBytes, controlByte_fields, hn, hbs]

/-- A byte string of another length than a byte's and a block's is read as a frame. -/
theorem decodeWire_eq_decodeFrame {l : List Byte} (h : 8 < l.length) : decodeWire l = decodeFrame l := by
  unfold decodeWire
  split
  · simp at h
  · simp at h
  · simp at h
  · rfl

theorem decodeWire_frame {n : BitVec 4} {bs : List WireBlock} (hn : n ≠ 0#4) (hlen : bs.length = n.toNat) :
    decodeWire (frameBytes n (bs.map WireBlock.toBlk8)) = .ok (.frame n bs) := by
  have hpos : n.toNat ≠ 0 := fun h => hn (BitVec.eq_of_toNat_eq h)
  rw [decodeWire_eq_decodeFrame, decodeFrame_frameBytes hn hlen]
  rw [frameBytes_length, List.length_map]
  omega

/-! ## Every encoding -/

/-- A byte string that is a wire unit is the bytes the encoder writes for it. -/
theorem encode_of_decodeWire {l : List Byte} {i : Instr} (h : decodeWire l = .ok i) :
    encode i = .wire l ∧ i.wf = true := by
  unfold decodeWire at h
  split at h
  · cases h
  · rename_i b
    cases h
    exact ⟨by rw [decodeWireByte, encode_instr, byte_classify], WireClass.instr_wf _⟩
  · split at h
    · cases h
    · rename_i b hb
      cases h
      exact ⟨by rw [encode, toBlk8_of_decodeBlk8 hb]; rfl, rfl⟩
  · exact bytes_of_decodeFrame h

theorem decodeWire_of_encode {l : List Byte} {i : Instr} (hwf : i.wf = true) (h : encode i = .wire l) :
    decodeWire l = .ok i := by
  cases i <;> cases h
  case wireData d => exact decodeWire_byte (.data d)
  case wireMask m => exact decodeWire_byte (.mask m)
  case wireSc1 n => exact decodeWire_byte (.sc1 n)
  case wireSc2 n => exact decodeWire_byte (.sc2 n)
  case wireEc1 n => exact decodeWire_byte (.ec1 n)
  case wireEc2 n => exact decodeWire_byte (.ec2 n)
  case block b => exact decodeWire_block b
  case frame n bs =>
    obtain ⟨hn, hlen⟩ : n ≠ 0#4 ∧ bs.length = n.toNat := by simpa [Instr.wf] using hwf
    exact decodeWire_frame hn hlen

/-- Settles O2: each port's decoder reads back what the encoder writes for it (`decodeCommand_of_encode`,
`decodeWire_of_encode`). -/
theorem decodeOfEncodeIsTheInstruction : Obligations.DecodeOfEncodeIsTheInstruction := by
  intro i hwf hne
  cases he : encode i with
  | command w => rw [decode, decodeCommand_of_encode he]
  | wire l => exact decodeWire_of_encode hwf he
  | internal => exact absurd he hne

/-- Settles O3, for each port of the decoder by what it reads (`encode_of_decodeCommand`, `encode_of_decodeWire`). -/
theorem encodeOfDecodedBitsIsTheBits : Obligations.EncodeOfDecodedBitsIsTheBits := by
  intro e i h
  cases e with
  | command w =>
    rw [decode] at h
    split at h
    · cases h
    · cases h
      exact encode_of_decodeCommand ‹_›
  | wire l => exact encode_of_decodeWire h
  | internal => cases h

/-- Settles O1: each decoder evaluated on literal bits. -/
theorem sampleWordsDecode : Obligations.SampleWordsDecode :=
  ⟨rfl, rfl, rfl, rfl, rfl, rfl, rfl, rfl, rfl, rfl, rfl, rfl, rfl, rfl, rfl⟩

/-- Settles O4: each class's range begins at its first value and is as long as its field is wide
(`exists_classify_eq`). -/
theorem byteClassesAreTheTables : Obligations.ByteClassesAreTheTables := by
  intro b
  have hb := b.isLt
  refine ⟨fun hi => ?data, fun lo hi => ?mask, fun lo hi => ?sc1, fun lo hi => ?sc2, fun lo hi => ?ec1, fun lo => ?ec2⟩
  case data => exact exists_classify_eq (mk := .data) (fun _ => rfl) (Nat.zero_le _) (by omega)
  all_goals exact exists_classify_eq (fun _ => rfl) lo (by omega)

end Sys2Proof

namespace Sys2Proof.Machine

/-! ## Refused words -/

theorem step_refused {s : State} {a : Agent} {rest : List Turn} {w : CommandWord} {ws : List CommandWord}
    {e : CommandError} (ht : s.turns = .command a :: rest) (hq : s.queues.of a = w :: ws)
    (hd : decodeCommand w = .error e) : step s = .refused (refusalOf e) := by
  simp only [step, ht, hq, hd]

/-- Settles O5: the step refuses as the decoder does (`step_refused`), and the decoder by the row of the word
(`decodeCommand_row`). -/
theorem reservedWordsAreRefused : Obligations.ReservedWordsAreRefused := by
  intro s a rest w ws ht hq
  have hrefused {e : CommandError} (hd : decodeCommand w = .error e) := step_refused ht hq hd
  have hrow := decodeCommand_row (w.extractLsb' 8 8) (w.extractLsb' 0 8)
  rw [commandWord_halves] at hrow
  simp only [← commandWord_op_toNat, ← commandWord_arg_toNat]
  generalize w.extractLsb' 8 8 = op, w.extractLsb' 0 8 = arg, decodeCommand w = r at hrow hrefused ⊢
  cases hrow with
  | reserved hr => exact ⟨fun _ => hrefused rfl, fun hn => absurd hr hn, fun hn => absurd hr hn⟩
  | wWrite hop => subst hop; exact ⟨by simp [reservedOp], fun _ h => absurd rfl h, fun _ _ => ⟨_, rfl⟩⟩
  | hSubmit hop => subst hop; exact ⟨by simp [reservedOp], fun _ _ h => absurd rfl h, fun _ _ => ⟨_, rfl⟩⟩
  | @plain i _ _ hr hw hh =>
    refine ⟨fun h => absurd h hr, fun _ _ _ harg => hrefused (if_neg ?_), fun _ h => ⟨i, if_pos ?_⟩⟩
    · rintro rfl
      exact harg rfl
    · exact BitVec.eq_of_toNat_eq ((h.resolve_left hw).resolve_left hh)

/-! ## Wire bytes and the handler's poll -/

theorem takenFromIn_ready {b : Byte} {s : State} (take : State → State) (hi : s.handler.initialized = true)
    (hs : s.handler.state = .getByte) (hb : s.mem.inb.contents.head? = some b) :
    takenFromIn b take s = .next (take s) := by
  simp [takenFromIn, hi, hs, hb]

theorem takenOrCollected_getByte {b : Byte} {s : State} (take : State → State) (hs : s.handler.state = .getByte) :
    takenOrCollected b take s = takenFromIn b take s := by
  simp [takenOrCollected, hs]

theorem takenOrCollected_handleBlock {b : Byte} {s : State} (take : State → State)
    (hi : s.handler.initialized = true) (hs : s.handler.state = .handleBlock) (hb : s.handler.cur = b) :
    takenOrCollected b take s = .next (pollHandleBlock s) :=
  if_pos ⟨hi, hs, hb⟩

/-- At `GetByte` the row of a class of bytes is open to the byte of that class. -/
theorem exec_instr_getByte (c : WireClass) {s : State} (hs : s.handler.state = .getByte) :
    exec c.instr s = takenFromIn c.byte (takeByte c) s := by
  cases c with
  | data d => exact takenOrCollected_getByte (takeData d) hs
  | mask m => exact takenOrCollected_getByte (takeMask m) hs
  | sc1 n => rfl
  | sc2 n => rfl
  | ec1 n => rfl
  | ec2 n => rfl

/-- A payload byte's row is open in `HandleBlock` too (R146); the control bytes' are from `0xC0` on (R84). -/
theorem exec_instr_handleBlock {c : WireClass} {s : State} (hi : s.handler.initialized = true)
    (hs : s.handler.state = .handleBlock) (hc : s.handler.cur = c.byte) (hlt : c.byte.toNat < 0xC0) :
    exec c.instr s = .next (pollHandleBlock s) := by
  rw [c.byte_toNat] at hlt
  cases c
  case data d => exact takenOrCollected_handleBlock (takeData d) hi hs hc
  case mask m => exact takenOrCollected_handleBlock (takeMask m) hi hs hc
  all_goals
    simp only [WireClass.base] at hlt
    omega

/-- Where a byte is to be treated, its row is the transition of the handler's poll. -/
theorem exec_decodeWireByte {s : State} {b : Byte} (hi : s.handler.initialized = true)
    (h : (s.handler.state = .getByte ∧ s.mem.inb.contents.head? = some b) ∨
      (s.handler.state = .handleBlock ∧ s.handler.cur = b ∧ b.toNat < 0xC0)) :
    exec (decodeWireByte b) s = .next (handlerTransition s) := by
  rw [← byte_classify b] at h ⊢
  rw [decodeWireByte_byte]
  obtain ⟨hs, hb⟩ | ⟨hs, hcur, hlt⟩ := h
  · rw [exec_instr_getByte _ hs, takenFromIn_ready _ hi hs hb, ← pollGetByte_of_head hb, handlerTransition, hs]
  · rw [exec_instr_handleBlock hi hs hcur hlt, handlerTransition, hs]

theorem exec_hPoll {s : State} (hi : s.handler.initialized = true) :
    exec .hPoll s = .next ((handlerTransition s).respond .ok 0#32) :=
  handlerPort_ready _ hi

/-- Settles O43: the byte's row is the poll's transition (`exec_decodeWireByte`), which with `IN` empty is none
(`pollGetByte_nil`). -/
theorem hPollRunsTheWireByte : Obligations.HPollRunsTheWireByte := by
  intro s hi
  rw [exec_hPoll hi]
  refine ⟨fun b h => ?byte, fun hs hin => ?empty⟩
  case byte =>
    rw [exec_decodeWireByte hi h]
    rfl
  case empty =>
    rw [handlerTransition, hs, pollGetByte_nil hin]
    rfl

/-! ## Blocks and frames, as the writer emits them -/

/-- A plain unlocked buffer with room for all the bytes takes them all. -/
theorem Buffer.putAll_room {cap : Nat} {b : Buffer} {l : List Byte} (hl : b.locked = false) (hr : b.rw = false)
    (hroom : b.contents.length + b.pending.length + l.length ≤ cap) :
    Buffer.putAll cap b l = ({ b with contents := b.contents ++ l }, []) := by
  rw [Buffer.putAll_plain cap l b (by omega) hl hr, List.take_of_length_le (by omega),
    List.drop_of_length_le (by omega)]

/-- R81: the bytes of a block, each with its fixed bits ORed in. -/
theorem toBlk8_toList (b : WireBlock) :
    b.toBlk8.toList = [0x80#8 ||| b.m.setWidth 8, b.c, b.d0.setWidth 8, b.d1.setWidth 8, b.d2.setWidth 8,
      b.d3.setWidth 8, b.d4.setWidth 8, b.d5.setWidth 8] := by
  have hm : ∀ m : BitVec 6, 0b10#2 ++ m = 0x80#8 ||| m.setWidth 8 := by decide
  have hd : ∀ d : BitVec 7, 0#1 ++ d = d.setWidth 8 := by decide
  simp only [WireBlock.toBlk8, Blk8.toList, hm, hd]

/-- R79, R82: the bytes of a frame, each control byte as its code ORed with the count. -/
theorem frameBytes_toBlk8 (n : BitVec 4) (bs : List WireBlock) :
    frameBytes n (bs.map WireBlock.toBlk8) =
      [0xC0#8 ||| n.setWidth 8, 0xD0#8 ||| n.setWidth 8] ++ bs.flatMap (fun b => b.toBlk8.toList) ++
        [0xE0#8 ||| n.setWidth 8, 0xF0#8 ||| n.setWidth 8] := by
  have hctl : ∀ n : BitVec 4, controlByte 0xC#4 n = 0xC0#8 ||| n.setWidth 8 ∧
      controlByte 0xD#4 n = 0xD0#8 ||| n.setWidth 8 ∧ controlByte 0xE#4 n = 0xE0#8 ||| n.setWidth 8 ∧
      controlByte 0xF#4 n = 0xF0#8 ||| n.setWidth 8 := by decide
  obtain ⟨hc, hd, he, hf⟩ := hctl n
  rw [frameBytes, hc, hd, he, hf, List.flatMap_map]

/-- A block not yet begun, with room in `OUT`, is emitted whole (R121). -/
theorem emitBlock_room {s : State} (hl : s.mem.out.locked = false) (hr : s.mem.out.rw = false)
    (hidx : s.writer.byteIdx = 0#4)
    (hroom : s.mem.out.contents.length + s.mem.out.pending.length + 8 ≤ s.params.outCap) :
    emitBlock s = (s.setOut { s.mem.out with contents := s.mem.out.contents ++ s.writer.enc.toList }).setWriter
      { s.writer with
        byteIdx := 8#4, busy := false, bidx := s.writer.bidx + 1#4
        state := if s.writer.bidx + 1#4 < s.writer.n then .initBlock else .unlockBuffer } := by
  have hrest : s.writer.enc.toList.drop s.writer.byteIdx.toNat = s.writer.enc.toList := by rw [hidx]; rfl
  have hput : Buffer.putAll s.params.outCap s.mem.out s.writer.enc.toList = _ := Buffer.putAll_room hl hr hroom
  simp only [emitBlock, hrest, hput, State.setOut_writer]
  rw [hidx]
  rfl

/-- The poll of a writer that stands before a block is the emission (R121). -/
theorem exec_wPoll_atBlock {s : State} {b : WireBlock} (hi : s.writer.initialized = true) (h : atBlock b s) :
    exec .wPoll s = .next ((emitBlock s).respond .ok 0#32) := by
  obtain ⟨hs, hb, -, -⟩ := h
  refine (writerPort_ready _ hi hb).trans ?_
  rw [writerTransition, hs]

theorem exec_block {s : State} {b : WireBlock} (hi : s.writer.initialized = true) (h : atBlock b s) :
    exec (.block b) s = .next (emitBlock s) := by
  refine (if_neg ?_).trans (if_pos h)
  simp [hi]

/-- Settles O26: the row and the poll are one emission (`exec_block`, `exec_wPoll_atBlock`), which puts the block whole
where there is room (`emitBlock_room`). -/
theorem blockIsWhatTheWriterEmits : Obligations.BlockIsWhatTheWriterEmits := by
  intro s b hi h
  rw [exec_wPoll_atBlock hi h, exec_block hi h]
  refine ⟨rfl, fun hl hr hroom => ?_⟩
  obtain ⟨-, hb, hidx, henc⟩ := h
  rw [emitBlock_room hl hr hidx hroom, henc, toBlk8_toList, ← hb]
  rfl

theorem exec_frame {s : State} {n : BitVec 4} {blocks : List WireBlock} (h : FrameReady s n blocks) :
    exec (.frame n blocks) s = .next (afterFrame s { s.mem.out with
      contents := s.mem.out.contents ++ frameBytes n (blocks.map WireBlock.toBlk8) }) := by
  obtain ⟨hi, hat, hl, hr, hroom⟩ := h
  have hlen : (blocks.map WireBlock.toBlk8).length = n.toNat := by
    obtain ⟨-, -, -, -, -, hblocks⟩ := hat
    rw [hblocks, payloadBlocks_length]
  have hput : Buffer.putAll s.params.outCap s.mem.out (frameBytes n (blocks.map WireBlock.toBlk8)) = _ :=
    Buffer.putAll_room hl hr (by rwa [frameBytes_length, hlen])
  refine (if_neg (by simp [hi])).trans ((if_pos hat).trans ?_)
  rw [hput]

/-- Settles O27: the row runs (`exec_frame`); of `W.remaining` the bytes sent are taken, `min(6n, W.remaining)`. -/
theorem frameIsEmittedWhole : Obligations.FrameIsEmittedWhole := by
  intro s n blocks h
  refine ⟨s.writer.remaining - BitVec.ofNat 7 (min (6 * n.toNat) s.writer.remaining.toNat), ?left, ?next⟩
  case left =>
    have hlt := s.writer.remaining.isLt
    rw [BitVec.toNat_sub, BitVec.toNat_ofNat]
    omega
  case next =>
    obtain ⟨-, -, -, hn, -⟩ := h.ready
    simp only [exec_frame h, frameBytes_toBlk8, toBlk8_toList, afterFrame, hn]
    rfl

end Sys2Proof.Machine

/-!
SUPPORT. The family of 40_codec.md: the codec lane by lane, each lane named by its index (`rawByte`, `blockByte`): what
`ENCODE` puts in a lane and in the mask (R94, R96), what `DECODE` reads back (R97, R98), the byte classes of an encoded
block (R95), and which corruptions the checksum shows (R100, R163).
-/

namespace Sys2Proof.Machine

/-! ## Lanes -/

theorem rawByte_pad6 (raw : List Byte) (j : Fin 6) : rawByte (pad6 raw) j = raw.getD j 0xFF#8 := by
  fin_cases j <;> rfl

theorem rawByte_demaskedBytes (b : Blk8) (j : Fin 6) :
    rawByte (demaskedBytes b) j = demaskedByte b.mask (blockByte b j) j := by
  fin_cases j <;> rfl

/-- Data byte `j` of an encoded block is the masked raw byte of its lane. -/
theorem blockByte_encodeRaw6 (k : Nat) (r : Raw6) (j : Fin 6) :
    blockByte (encodeRaw6 k r) j = maskedByte (rawByte r j) := by
  fin_cases j <;> rfl

/-- R96: mask bit `j` is the high bit of lane `j`. -/
theorem maskByte_getLsbD_lane (r : Raw6) (j : Fin 6) : (maskByte r).getLsbD j = (rawByte r j).getLsbD 7 := by
  obtain ⟨h0, h1, h2, h3, h4, h5, -, -⟩ := maskByte_getLsbD r
  fin_cases j
  exacts [h0, h1, h2, h3, h4, h5]

/-- R94: a mask byte is of the form `10mmmmmm`. -/
theorem maskByte_topBits (r : Raw6) : (maskByte r).getLsbD 6 = false ∧ (maskByte r).getLsbD 7 = true := by
  obtain ⟨-, -, -, -, -, -, h6, h7⟩ := maskByte_getLsbD r
  exact ⟨h6, h7⟩

theorem raw6_eq_of_rawByte_eq {r r' : Raw6} (h : ∀ j : Fin 6, rawByte r j = rawByte r' j) : r = r' := by
  cases r
  cases r'
  rw [Raw6.mk.injEq]
  exact ⟨h 0, h 1, h 2, h 3, h 4, h 5⟩

/-! ## Encoding -/

theorem exec_codecEncode {raw : List Byte} (s : State) (h1 : 1 ≤ raw.length) (h6 : raw.length ≤ 6) :
    exec (.codecEncode raw) s = .next { s with answer := .encoded (encodeBlock s.params.checksumId raw) } :=
  if_pos ⟨h1, h6⟩

theorem exec_codecEncode_refused {raw : List Byte} (s : State) (h : raw.length = 0 ∨ 6 < raw.length) :
    exec (.codecEncode raw) s = .refused .operandOutOfRange :=
  if_neg (by omega)

/-- Settles O31: the row answers the encoded block (`exec_codecEncode`), whose bytes are read lane by lane. -/
theorem encodeMasksAndChecksums : Obligations.EncodeMasksAndChecksums := by
  intro s raw
  refine ⟨fun h1 h6 => ?encoded, exec_codecEncode_refused s⟩
  obtain ⟨bit6, bit7⟩ := maskByte_topBits (pad6 raw)
  refine ⟨_, exec_codecEncode s h1 h6, fun j => ?lane, fun j => ?maskBit, bit6, bit7, rfl⟩
  case lane => rw [encodeBlock, blockByte_encodeRaw6, rawByte_pad6, maskedByte_eq]
  case maskBit => rw [encodeBlock, encodeRaw6, maskByte_getLsbD_lane, rawByte_pad6]

/-! ## The byte classes of an encoded block (R95) -/

theorem exists_classify_mask {b : Byte} (h6 : b.getLsbD 6 = false) (h7 : b.getLsbD 7 = true) :
    ∃ m, classify b = .mask m :=
  ⟨b.extractLsb' 0 6, by simp only [classify, h6, h7, Bool.true_eq_false, if_true, if_false]⟩

theorem exists_classify_data {b : Byte} (h : b ≤ 0x7F#8) : ∃ d, classify b = .data d := by
  obtain ⟨data, -⟩ := byteClassesAreTheTables b
  obtain ⟨d, hd, -⟩ := data h
  exact ⟨d, hd⟩

/-- Under `CS7` the checksum of an encoded block is 7-bit clean, since the bytes it is taken of are. -/
theorem encodeRaw6_checksum_le {k : Nat} (h : CS7 k) (r : Raw6) : (encodeRaw6 k r).checksum ≤ 0x7F#8 :=
  h (maskedBytes r) (maskedByte_le _) (maskedByte_le _) (maskedByte_le _) (maskedByte_le _) (maskedByte_le _)
    (maskedByte_le _)

/-- Settles O34: the mask byte by its two top bits, the other bytes by being at most `0x7F`. -/
theorem encodedBlockHasItsClasses : Obligations.EncodedBlockHasItsClasses := by
  intro k raw _ _
  obtain ⟨h6, h7⟩ := maskByte_topBits (pad6 raw)
  refine ⟨exists_classify_mask h6 h7, fun j => exists_classify_data ?lane,
    fun h => exists_classify_data (encodeRaw6_checksum_le h _)⟩
  rw [encodeBlock, blockByte_encodeRaw6]
  exact maskedByte_le _

/-! ## Decoding -/

theorem decodeBlock_eq_some_iff {k : Nat} {b : Blk8} {r : Raw6} :
    decodeBlock k b = some r ↔ Config.checksum k (dataBytes b) = b.checksum ∧ demaskedBytes b = r := by
  simp [decodeBlock]

theorem decodeBlock_eq_none_iff {k : Nat} {b : Blk8} :
    decodeBlock k b = none ↔ Config.checksum k (dataBytes b) ≠ b.checksum := by
  simp [decodeBlock]

theorem exec_codecDecode_mismatch {s : State} {b : Blk8} (h : decodeBlock s.params.checksumId b = none) :
    exec (.codecDecode b) s = .next { s with answer := .checksumMismatch } := by
  rw [exec, execCodecDecode, h]
  rfl

theorem exec_codecDecode_decoded {s : State} {b : Blk8} {r : Raw6}
    (h : decodeBlock s.params.checksumId b = some r) :
    exec (.codecDecode b) s = .next { s with answer := .decoded r } := by
  rw [exec, execCodecDecode, h]
  rfl

/-- Settles O32: the row answers as `decodeBlock` does, by the two outcomes of the checksum test. -/
theorem decodeChecksAndDemasks : Obligations.DecodeChecksAndDemasks := by
  intro s b c
  refine ⟨fun hne => ?mismatch, fun heq => ⟨demaskedBytes b, ?decoded, rawByte_demaskedBytes b⟩⟩
  case mismatch => exact exec_codecDecode_mismatch (decodeBlock_eq_none_iff.2 hne)
  case decoded => exact exec_codecDecode_decoded (decodeBlock_eq_some_iff.2 ⟨heq, rfl⟩)

/-- Demasking undoes masking: in each lane the recorded high bit is put back (`maskedByte_restore`). -/
theorem demaskedBytes_encodeRaw6 (k : Nat) (r : Raw6) : demaskedBytes (encodeRaw6 k r) = r := by
  refine raw6_eq_of_rawByte_eq fun j => ?_
  rw [rawByte_demaskedBytes, blockByte_encodeRaw6, demaskedByte, encodeRaw6, maskByte_getLsbD_lane,
    maskedByte_restore]

theorem decodeBlock_encodeRaw6 (k : Nat) (r : Raw6) : decodeBlock k (encodeRaw6 k r) = some r :=
  decodeBlock_eq_some_iff.2 ⟨rfl, demaskedBytes_encodeRaw6 k r⟩

/-- Settles O33: the padded block comes back (`decodeBlock_encodeRaw6`), and it is the chunk and its padding
(`rawList_pad6`). -/
theorem codecRoundTrip : Obligations.CodecRoundTrip := by
  intro k raw _ h6
  rw [encodeBlock, decodeBlock_encodeRaw6, Option.map_some, rawList_pad6 raw h6]

/-! ## Corrupted blocks -/

theorem getLsbD_flipBit (m : Byte) (j l : Fin 6) :
    (m ^^^ (1#8 <<< j.val)).getLsbD l = (m.getLsbD l ^^ decide (j = l)) := by
  have bit : ∀ j l : Fin 6, (1#8 <<< j.val).getLsbD l = decide (j = l) := by decide
  rw [BitVec.getLsbD_xor, bit]

theorem demaskedByte_flip_other (m d : Byte) {j l : Fin 6} (h : l ≠ j) :
    demaskedByte (m ^^^ (1#8 <<< j.val)) d l = demaskedByte m d l := by
  rw [demaskedByte, getLsbD_flipBit, decide_eq_false h.symm, Bool.xor_false, demaskedByte]

theorem demaskedByte_flip_same (m : Byte) {d : Byte} (j : Fin 6) (h : d ≤ 0x7F#8) :
    demaskedByte (m ^^^ (1#8 <<< j.val)) d j = demaskedByte m d j ^^^ 0x80#8 := by
  have key : ∀ (b : Bool) (d : Byte), d ≤ 0x7F#8 →
      (d ||| if !b then 0x80#8 else 0#8) = (d ||| if b then 0x80#8 else 0#8) ^^^ 0x80#8 := by decide
  rw [demaskedByte, getLsbD_flipBit, decide_eq_true rfl, Bool.xor_true, key _ d h, demaskedByte]

/-- Settles O35: the checksum does not see the mask, and demasking is lane by lane (`demaskedByte_flip_other`,
`demaskedByte_flip_same`). -/
theorem maskCorruptionIsUndetected : Obligations.MaskCorruptionIsUndetected := by
  intro k b r j h
  obtain ⟨hc, rfl⟩ := decodeBlock_eq_some_iff.1 h
  refine ⟨_, decodeBlock_eq_some_iff.2 ⟨hc, rfl⟩, fun l hl => ?other, fun hd => ?same⟩
  all_goals simp only [rawByte_demaskedBytes]
  case other => exact demaskedByte_flip_other b.mask _ hl
  case same => exact demaskedByte_flip_same b.mask j hd

/-- Under `CS_SBE` a bit flipped between two 7-bit-clean data blocks changes the checksum. -/
theorem checksum_ne_of_differInOneBit {k : Nat} (h : CSSBE k) {d e : Raw6} (hd : ∀ j : Fin 6, rawByte d j ≤ 0x7F#8)
    (he : ∀ j : Fin 6, rawByte e j ≤ 0x7F#8) (hde : d.differInOneBit e) :
    Config.checksum k d ≠ Config.checksum k e :=
  h d e (hd 0) (hd 1) (hd 2) (hd 3) (hd 4) (hd 5) (he 0) (he 1) (he 2) (he 3) (he 4) (he 5) hde

/-- Settles O36: the checksum byte of a block that decodes is the checksum of its data, so either change makes the two
differ (`checksum_ne_of_differInOneBit` for the data's). -/
theorem singleBitFlipsAreDetected : Obligations.SingleBitFlipsAreDetected := by
  intro k b r h
  obtain ⟨hc, -⟩ := decodeBlock_eq_some_iff.1 h
  simp only [decodeBlock_eq_none_iff, ← hc]
  refine ⟨fun c hne => hne.symm, fun hsbe hb e hflip he => ?_⟩
  exact (checksum_ne_of_differInOneBit (d := dataBytes b) hsbe hb he hflip).symm

end Sys2Proof.Machine

/-!
SUPPORT. The family of 41_writer.md, part 1: the writer port's commands (R101 to R110). Behind the port's guards a
command is its own branches, and each branch is the record update its rule gives.
-/

namespace Sys2Proof.Machine

/-! ## The port while the writer spins -/

/-- R101 (3): a command that is not exempt from the busy guard is held. -/
theorem writerPort_busy {s : State} (k : Host.Outcome State Fault Refusal) (hi : s.writer.initialized = true)
    (hb : s.writer.busy = true) : writerPort false s k = hold s := by
  simp [writerPort, hi, hb]

theorem exec_wQcount {s : State} (hi : s.writer.initialized = true) :
    exec .wQcount s = .next { s with answer := .response .ok (queuedWord s.writer.queued) } :=
  writerPort_whileBusy _ hi

/-- Settles O12: seven commands stand behind the busy guard (`writerPort_busy`), `W.INIT` has the test itself, and the
last two pass the guard. -/
theorem busyWriterHoldsItsPort : Obligations.BusyWriterHoldsItsPort := by
  intro s b hi hb
  have held (k : Host.Outcome State Fault Refusal) : writerPort false s k = hold s := writerPort_busy k hi hb
  simp only [List.forall_mem_cons]
  exact ⟨⟨if_pos hb, held _, held _, held _, held _, held _, held _, held _, List.forall_mem_nil _⟩,
    ⟨_, exec_wQcount hi⟩, ⟨_, exec_wStatus hi⟩, List.forall_mem_nil _⟩

/-! ## The commands of an idle port -/

/-- R89, R107: a counter of at most 32 bits is its own data word. -/
theorem queuedWord_toNat {q : Nat} (h : q < 2 ^ 32) : (queuedWord q).toNat = q := by
  rw [queuedWord, if_pos h, BitVec.toNat_ofNat, Nat.mod_eq_of_lt h]

/-- Settles O17: the answer is `queuedWord` (`exec_wQcount`). -/
theorem wQcountObservesTheCounter : Obligations.WQcountObservesTheCounter :=
  fun _ hi => ⟨_, exec_wQcount hi, queuedWord_toNat⟩

/-- Settles O13: the two branches of R103. -/
theorem wOpenStartsComposing : Obligations.WOpenStartsComposing := by
  intro s hi hb
  refine ⟨fun hc => ?opened, fun hc => ?alreadyOpen⟩
  case opened => exact (writerPort_ready _ hi hb).trans (if_neg (by simp [hc]))
  case alreadyOpen => exact (writerPort_ready _ hi hb).trans (if_pos hc)

/-- Settles O15: the two branches of R105. -/
theorem wCloseQueuesAndArms : Obligations.WCloseQueuesAndArms := by
  intro s hi hb
  refine ⟨fun hc => ?closed, fun hc => ?notOpen⟩
  case closed => exact (writerPort_ready _ hi hb).trans (if_neg (by simp [hc]))
  case notOpen => exact (writerPort_ready _ hi hb).trans (if_pos hc)

/-- Settles O16: the two branches of R106. -/
theorem wTriggerArmsOnce : Obligations.WTriggerArmsOnce := by
  intro s hi hb
  refine ⟨fun ht => ?armed, fun ht => ?alreadyTriggered⟩
  case armed => exact (writerPort_ready _ hi hb).trans (if_neg (by simp [ht]))
  case alreadyTriggered => exact (writerPort_ready _ hi hb).trans (if_pos ht)

/-- Settles O19: the two branches R108 and R109 have in common. -/
theorem writerRegistersInIdleOnly : Obligations.WriterRegistersInIdleOnly := by
  intro s hi hb
  have port (k : Host.Outcome State Fault Refusal) : writerPort false s k = k := writerPort_ready k hi hb
  exact ⟨fun hs => ⟨(port _).trans (if_pos hs), (port _).trans (if_pos hs)⟩,
    fun hs => ⟨(port _).trans (if_neg hs), (port _).trans (if_neg hs)⟩⟩

/-! ## `W.WRITE` -/

section

variable {s : State} (hi : s.writer.initialized = true) (hb : s.writer.busy = false)

include hi hb

theorem exec_wWrite_rejected {b : Byte} (hc : s.writer.composing = true)
    (hput : s.mem.src.put s.params.srcCap b = none) : exec (.wWrite b) s = failW .bufferFull .bufferFull s := by
  refine (writerPort_ready _ hi hb).trans ((if_neg (by simp [hc])).trans ?_)
  rw [hput]

theorem exec_wWrite_accepted {b : Byte} {src : Buffer} (hc : s.writer.composing = true)
    (hput : s.mem.src.put s.params.srcCap b = some src) :
    exec (.wWrite b) s = .next ((s.setSrc src).respond .ok 0#32) := by
  refine (writerPort_ready _ hi hb).trans ((if_neg (by simp [hc])).trans ?_)
  rw [hput]

end

/-- Settles O14: `NotOpen` is tested first; then `Put` rejects the byte (`Buffer.put_locked`, `Buffer.put_full`) or
takes it (`Buffer.put_plain`). -/
theorem wWriteAppendsOrRejects : Obligations.WWriteAppendsOrRejects := by
  intro s b hi hb
  refine ⟨fun hc => ?notOpen, fun hc hfull => ?bufferFull, fun hc hl hr hroom => ?accepted⟩
  case notOpen => exact (writerPort_ready _ hi hb).trans (if_pos hc)
  case bufferFull => exact exec_wWrite_rejected hi hb hc (hfull.elim (Buffer.put_locked b) (Buffer.put_full b))
  case accepted => exact exec_wWrite_accepted hi hb hc (Buffer.put_plain b hroom hl hr)

end Sys2Proof.Machine

/-!
SUPPORT. The family of 41_writer.md, part 2: one `W.POLL` (R111 to R130). The poll of an initialized writer that does
not spin is the transition of its state; each transition is said once, as the state it leads to.
-/

namespace Sys2Proof.Machine

section

variable {s : State} (hi : s.writer.initialized = true) (hb : s.writer.busy = false)

include hi hb

theorem exec_wPoll : exec .wPoll s = .next ((writerTransition s).respond .ok 0#32) := writerPort_ready _ hi hb

/-- R111: the poll, by the row of `writerTransition` for the current state. -/
theorem exec_wPoll_of_eq {t : State} (h : writerTransition s = t) : exec .wPoll s = .next (t.respond .ok 0#32) :=
  h ▸ exec_wPoll hi hb

end

/-! ## Before the payload is looked at -/

section

variable {s : State}

theorem gotoW_self {q : WState} (hs : s.writer.state = q) : s.gotoW q = s := by
  subst hs
  rfl

theorem writerTransition_idle (hs : s.writer.state = .idle) :
    writerTransition s = s.gotoW (if s.writer.regOut && s.writer.regLsn then .waitForTrigger else .idle) := by
  rw [writerTransition, hs]
  simp only [pollIdleW, Bool.and_eq_true]
  split
  · rfl
  · exact (gotoW_self hs).symm

theorem writerTransition_waitForTrigger (hs : s.writer.state = .waitForTrigger) :
    writerTransition s = s.gotoW (if s.writer.triggered then .lockBuffer else .waitForTrigger) := by
  rw [writerTransition, hs]
  simp only [pollWaitForTrigger]
  split
  · rfl
  · exact (gotoW_self hs).symm

theorem writerTransition_lockBuffer (hs : s.writer.state = .lockBuffer) :
    writerTransition s = (s.setSrc { s.mem.src with locked := true }).gotoW .computeBlockCount := by
  rw [writerTransition, hs]
  exact pollLockBuffer_eq s

end

/-- Settles O20: one row of `writerTransition` for each of the three states. -/
theorem wPollWaitsThenLocks : Obligations.WPollWaitsThenLocks :=
  fun _ hi hb => ⟨fun hs => exec_wPoll_of_eq hi hb (writerTransition_idle hs),
    fun hs => exec_wPoll_of_eq hi hb (writerTransition_waitForTrigger hs),
    fun hs => exec_wPoll_of_eq hi hb (writerTransition_lockBuffer hs)⟩

/-! ## The block count (R116) -/

section

variable {s : State} (hs : s.writer.state = .computeBlockCount)

include hs

theorem writerTransition_tooLarge (hf : 90 < s.mem.src.contents.length) :
    writerTransition s = ((s.setSrc s.mem.src.clear).raiseW .payloadTooLarge).enterErrorW := by
  have hn : 15 < blockCount s.mem.src.fill := by
    simp only [blockCount, Buffer.fill]
    omega
  rw [writerTransition, hs]
  exact if_pos hn

theorem writerTransition_noPayload (hf : s.mem.src.contents.length = 0) :
    writerTransition s = (s.setSrc s.mem.src.releaseLock).gotoW .reset := by
  have hn : blockCount s.mem.src.fill = 0 := by simp only [blockCount, Buffer.fill, hf]
  rw [writerTransition, hs]
  simp [pollComputeBlockCount, hn]

theorem writerTransition_payload (h0 : 0 < s.mem.src.contents.length) (h90 : s.mem.src.contents.length ≤ 90) :
    writerTransition s = s.setWriter { s.writer with
      n := BitVec.ofNat 4 ((s.mem.src.contents.length + 5) / 6)
      remaining := BitVec.ofNat 7 s.mem.src.contents.length, bidx := 0#4, state := .emitStart1 } := by
  rw [writerTransition, hs]
  refine (if_neg ?_).trans (if_neg ?_)
  all_goals
    simp only [blockCount, Buffer.fill]
    omega

end

/-- The count of a payload that fits a frame is exact in its four bits, the length in its seven. -/
theorem toNat_blockCount {f : Nat} (h : f ≤ 90) :
    (BitVec.ofNat 4 ((f + 5) / 6)).toNat = (f + 5) / 6 ∧ (BitVec.ofNat 7 f).toNat = f := by
  simp only [BitVec.toNat_ofNat]
  omega

/-- Settles O21: the three branches of R116; the count is a ceiling (`toNat_blockCount`). -/
theorem wPollComputesTheBlockCount : Obligations.WPollComputesTheBlockCount := by
  intro s hi hb hs
  refine ⟨fun hf => ?tooLarge, fun hf => ?empty, fun h0 h90 => ?payload⟩
  case tooLarge => exact exec_wPoll_of_eq hi hb (writerTransition_tooLarge hs hf)
  case empty => exact exec_wPoll_of_eq hi hb (writerTransition_noPayload hs hf)
  case payload =>
    obtain ⟨hn, hr⟩ := toNat_blockCount h90
    exact ⟨_, _, by omega, by omega, hr, exec_wPoll_of_eq hi hb (writerTransition_payload hs h0 h90)⟩

/-! ## Control bytes -/

/-- `OUT` with bytes added at the back. -/
def State.putOut (s : State) (l : List Byte) : State := s.setOut { s.mem.out with contents := s.mem.out.contents ++ l }

section

variable {s : State} {code : BitVec 4} {after : WState}

theorem pollEmitControl_full (h : s.mem.out.contents.length + s.mem.out.pending.length = s.params.outCap) :
    pollEmitControl code after s = s := by
  rw [pollEmitControl, Buffer.put_full _ h]

theorem pollEmitControl_room (h : s.mem.out.contents.length + s.mem.out.pending.length < s.params.outCap)
    (hl : s.mem.out.locked = false) (hr : s.mem.out.rw = false) :
    pollEmitControl code after s = (s.putOut [controlByte code s.writer.n]).gotoW after := by
  rw [pollEmitControl, Buffer.put_plain _ h hl hr]
  rfl

end

/-- R82: a control byte is its code's bits ORed with the count. -/
theorem controlByte_eq_or (code n : BitVec 4) : controlByte code n = (code ++ 0#4) ||| n.setWidth 8 := by
  revert code n
  decide

/-- Each of the four states puts the control byte of its code. -/
theorem writerTransition_control {s : State} {x : WState × Byte × WState} (hx : x ∈ controlStates)
    (hs : s.writer.state = x.1) :
    ∃ code, controlByte code s.writer.n = x.2.1 ||| s.writer.n.setWidth 8 ∧
      writerTransition s = pollEmitControl code x.2.2 s := by
  rw [writerTransition, hs]
  simp only [controlStates, List.mem_cons, List.not_mem_nil, or_false] at hx
  obtain rfl | rfl | rfl | rfl := hx
  · exact ⟨0xC#4, controlByte_eq_or _ _, rfl⟩
  · exact ⟨0xD#4, controlByte_eq_or _ _, rfl⟩
  · exact ⟨0xE#4, controlByte_eq_or _ _, rfl⟩
  · exact ⟨0xF#4, controlByte_eq_or _ _, rfl⟩

/-- Settles O22: the four states share one transition (`writerTransition_control`), which waits (`pollEmitControl_full`)
or puts (`pollEmitControl_room`). -/
theorem wPollEmitsControlBytes : Obligations.WPollEmitsControlBytes := by
  intro s hi hb x hx hs
  obtain ⟨code, hbyte, htrans⟩ := writerTransition_control hx hs
  refine ⟨fun hfull => ?full, fun hroom hl hr => ?room⟩
  case full => exact exec_wPoll_of_eq hi hb (htrans.trans (pollEmitControl_full hfull))
  case room =>
    rw [← hbyte]
    exact exec_wPoll_of_eq hi hb (htrans.trans (pollEmitControl_room hroom hl hr))

/-! ## A block -/

section

variable {s : State}

theorem writerTransition_initBlock (hs : s.writer.state = .initBlock) : writerTransition s = pollInitBlock s := by
  rw [writerTransition, hs]

theorem writerTransition_fillBlock (hs : s.writer.state = .fillBlock) : writerTransition s = pollFillBlock s := by
  rw [writerTransition, hs]

theorem writerTransition_emitBlockBytes (hs : s.writer.state = .emitBlockBytes) :
    writerTransition s = emitBlock s := by
  rw [writerTransition, hs]

end

/-- Counting down by at most what is there does not wrap. -/
theorem toNat_sub_ofNat {r : BitVec 7} {k : Nat} (h : k ≤ r.toNat) : (r - BitVec.ofNat 7 k).toNat = r.toNat - k := by
  have hlt := r.isLt
  rw [BitVec.toNat_sub, BitVec.toNat_ofNat]
  omega

/-- Settles O23: the two transitions; the raw block is the slice and its padding (`rawList_pad6`). -/
theorem wPollFillsABlock : Obligations.WPollFillsABlock := by
  intro s hi hb
  refine ⟨fun hs => ?init, fun hs hle => ?fill⟩
  case init => exact exec_wPoll_of_eq hi hb (writerTransition_initBlock hs)
  case fill =>
    have hlen : (s.mem.src.contents.take (min 6 s.writer.remaining.toNat)).length = min 6 s.writer.remaining.toNat :=
      List.length_take_of_le (by omega)
    refine ⟨pad6 (s.mem.src.contents.take (min 6 s.writer.remaining.toNat)), _, ?_, ?_,
      exec_wPoll_of_eq hi hb (writerTransition_fillBlock hs)⟩
    · have hraw := rawList_pad6 _ (hlen.trans_le (Nat.min_le_left 6 _))
      rwa [hlen] at hraw
    · exact toNat_sub_ofNat (Nat.min_le_right 6 _)

/-! ## Emission -/

/-- On an `OUT` in form the emission loop is `emitted`: what there is room for is put, and the block is done if that is
all that is left (R121). -/
theorem emitBlock_eq_emitted {s : State} (hl : s.mem.out.locked = false) (hr : s.mem.out.rw = false)
    (hp : s.mem.out.pending = []) (hfit : s.mem.out.contents.length ≤ s.params.outCap) :
    emitBlock s = emitted s := by
  have hroom : s.params.outCap - (s.mem.out.contents.length + s.mem.out.pending.length) =
      s.params.outCap - s.mem.out.contents.length := by simp [hp]
  have hput := Buffer.putAll_plain s.params.outCap (s.writer.enc.toList.drop s.writer.byteIdx.toNat) s.mem.out
    (by simpa [hp] using hfit) hl hr
  rw [hroom] at hput
  simp only [emitBlock, emitted, hput]
  generalize s.writer.enc.toList.drop s.writer.byteIdx.toNat = rest
  generalize s.params.outCap - s.mem.out.contents.length = room
  by_cases hdone : rest.length ≤ room
  case pos =>
    simp only [List.drop_of_length_le hdone, decide_eq_true hdone, Nat.min_eq_left hdone]
    rfl
  case neg =>
    obtain ⟨v, vs, hleft⟩ := List.exists_cons_of_ne_nil (l := rest.drop room) (by simpa using hdone)
    have hcount : rest.length - (v :: vs).length = min rest.length room := by
      rw [← hleft, List.length_drop]
      omega
    simp only [hleft, hcount, decide_eq_false hdone]
    rfl

/-- Settles O24: the poll and the spin are one loop (`emitBlock_eq_emitted`); a writer that does not spin holds. -/
theorem wPollAndWSpinEmitTheBlock : Obligations.WPollAndWSpinEmitTheBlock := by
  intro s hl hr hp hfit
  rw [← emitBlock_eq_emitted hl hr hp hfit]
  refine ⟨fun hi hb hs => ?poll, fun hb => ?spin, fun hb => ?held⟩
  case poll => exact exec_wPoll_of_eq hi hb (writerTransition_emitBlockBytes hs)
  case spin => exact if_pos hb
  case held => exact if_neg (by simp [hb])

/-! ## The end of a frame -/

section

variable {s : State}

theorem writerTransition_unlockBuffer (hs : s.writer.state = .unlockBuffer) :
    writerTransition s = pollUnlockBuffer s := by
  rw [writerTransition, hs]

theorem writerTransition_signalListener (hs : s.writer.state = .signalListener) :
    writerTransition s = pollSignalListener s := by
  rw [writerTransition, hs]

theorem writerTransition_waitAck (hs : s.writer.state = .waitAck) :
    writerTransition s = s.gotoW (if s.sendLsn then .waitAck else .reset) := by
  rw [writerTransition, hs]
  cases hlsn : s.sendLsn
  · exact if_pos hlsn
  · exact (if_neg (by simp [hlsn])).trans (gotoW_self hs).symm

/-- R128: the writer's registers once the frame is finished; the trigger stays while frames are queued. -/
theorem finishFrame_eq_decide : s.finishFrame = s.setWriter { s.writer with
    queued := s.writer.queued - 1, triggered := decide (1 < s.writer.queued), n := 0#4, bidx := 0#4,
    remaining := 0#7, byteIdx := 0#4 } := by
  have h : decide (s.writer.queued - 1 ≠ 0) = decide (1 < s.writer.queued) := decide_eq_decide.2 (by omega)
  rw [State.finishFrame_eq, h]
  rfl

theorem finishFrame_triggered : s.finishFrame.writer.triggered = decide (1 < s.writer.queued) := by
  rw [finishFrame_eq_decide]
  rfl

theorem writerTransition_reset (hs : s.writer.state = .reset) : writerTransition s = s.finishFrame.gotoW .idle := by
  rw [writerTransition, hs]
  rfl

theorem writerTransition_processError (hs : s.writer.state = .processError) :
    writerTransition s = (s.setSrc s.mem.src.releaseLock).finishFrame.gotoW .idle := by
  rw [writerTransition, hs]
  rfl

end

/-- Settles O25: one row of `writerTransition` for each of the five states; the last two finish the frame alike
(`finishFrame_eq_decide`). -/
theorem wPollEndsTheFrame : Obligations.WPollEndsTheFrame := by
  intro s hi hb finished
  refine ⟨fun hs => ?unlockBuffer, fun hs => ?signalListener, fun hs => ?waitAck, fun hs => ?reset,
    fun hs => ?processError⟩
  case unlockBuffer => exact exec_wPoll_of_eq hi hb (writerTransition_unlockBuffer hs)
  case signalListener => exact exec_wPoll_of_eq hi hb (writerTransition_signalListener hs)
  case waitAck => exact exec_wPoll_of_eq hi hb (writerTransition_waitAck hs)
  case reset =>
    have h := writerTransition_reset hs
    rw [finishFrame_eq_decide] at h
    exact exec_wPoll_of_eq hi hb h
  case processError =>
    have h := writerTransition_processError hs
    rw [finishFrame_eq_decide] at h
    exact exec_wPoll_of_eq hi hb h

end Sys2Proof.Machine

/-!
SUPPORT. The family of 41_writer.md, part 3: runs of polls (R112, R132, R135). A block takes three polls, and the blocks
of a frame leave one state whatever their number (`afterBlocks`, by induction on it); before and after them stand the
polls of the control bytes.
-/

namespace Sys2Proof.Machine

/-! ## Polls in a row -/

/-- R111: the poll has answered `OK`. -/
abbrev State.ok (s : State) : State := s.respond .ok 0#32

theorem State.ok_self {s : State} (h : s.answer = .response .ok 0#32) : s.ok = s := by
  rw [State.ok, State.respond, ← h]
  rfl

/-- The first of some polls. -/
theorem writerPolls_succ {s t u : State} (k : Nat) (hi : s.writer.initialized = true) (hb : s.writer.busy = false)
    (h : writerTransition s = t) (hu : t.ok = u) : writerPolls (k + 1) s = writerPolls k u := by
  rw [← hu]
  simp only [writerPolls, List.replicate_succ, runInstrs, exec_wPoll_of_eq hi hb h]

/-- A poll that puts a control byte. -/
theorem writerPolls_put {s u : State} {code : BitVec 4} {after : WState} (k : Nat) (hi : s.writer.initialized = true)
    (hb : s.writer.busy = false) (h : writerTransition s = pollEmitControl code after s)
    (hl : s.mem.out.locked = false) (hr : s.mem.out.rw = false)
    (hroom : s.mem.out.contents.length + s.mem.out.pending.length < s.params.outCap)
    (hu : ((s.putOut [controlByte code s.writer.n]).gotoW after).ok = u) : writerPolls (k + 1) s = writerPolls k u :=
  writerPolls_succ k hi hb (h.trans (pollEmitControl_room hroom hl hr)) hu

theorem State.putOut_pair (s : State) (v w : Byte) : s.putOut [v, w] = (s.putOut [v]).putOut [w] := by
  simp only [State.putOut, State.setOut_mem_out, List.append_assoc, List.singleton_append]
  rfl

/-- Two polls that put the two bytes of a marker (R117 and R118, R124 and R125). -/
theorem writerPolls_putPair {s : State} {code₁ code₂ : BitVec 4} {mid after : WState} (k : Nat)
    (hi : s.writer.initialized = true) (hb : s.writer.busy = false)
    (h₁ : writerTransition s = pollEmitControl code₁ mid s)
    (h₂ : ∀ t : State, t.writer.state = mid → writerTransition t = pollEmitControl code₂ after t)
    (hl : s.mem.out.locked = false) (hr : s.mem.out.rw = false)
    (hroom : s.mem.out.contents.length + s.mem.out.pending.length + 2 ≤ s.params.outCap) :
    writerPolls (k + 2) s =
      writerPolls k ((s.putOut [controlByte code₁ s.writer.n, controlByte code₂ s.writer.n]).gotoW after).ok := by
  have hlen : (s.putOut [controlByte code₁ s.writer.n]).mem.out.contents.length = s.mem.out.contents.length + 1 :=
    List.length_append
  have hroom₂ : (s.putOut [controlByte code₁ s.writer.n]).mem.out.contents.length + s.mem.out.pending.length <
      s.params.outCap := by omega
  rw [writerPolls_put (k + 1) hi hb h₁ hl hr (by omega) rfl, State.putOut_pair]
  exact writerPolls_put k hi hb (h₂ _ rfl) hl hr hroom₂ rfl

/-! ## One block -/

/-- The writer stands before the last `m` blocks of its frame, and `OUT` has their places. -/
structure BlockStart (m : Nat) (s : State) : Prop where
  initialized : s.writer.initialized = true
  not_busy : s.writer.busy = false
  state : s.writer.state = .initBlock
  left : s.writer.bidx.toNat + m = s.writer.n.toNat
  unlocked : s.mem.out.locked = false
  plain : s.mem.out.rw = false
  room : s.mem.out.contents.length + s.mem.out.pending.length + 8 * m ≤ s.params.outCap

/-- The state after the three polls that prepare, fill and emit a block with room in `OUT` (R119 to R121). -/
def afterBlock (s : State) : State :=
  let k := min 6 s.writer.remaining.toNat
  let r := s.mem.src.contents.take k
  let enc := encodeBlock s.params.checksumId r
  (((s.setSrc { s.mem.src with contents := s.mem.src.contents.drop k }).putOut enc.toList).setWriter { s.writer with
    state := if s.writer.bidx + 1#4 < s.writer.n then .initBlock else .unlockBuffer
    busy := false, bidx := s.writer.bidx + 1#4, byteIdx := 8#4
    remaining := s.writer.remaining - BitVec.ofNat 7 k, raw := pad6 r, enc := enc }).ok

section

variable {m : Nat} {s : State}

theorem BlockStart.writerPolls_block (h : BlockStart (m + 1) s) (k : Nat) :
    writerPolls (k + 3) s = writerPolls k (afterBlock s) := by
  obtain ⟨hi, hb, hs, -, hl, hr, hroom⟩ := h
  have hroom : s.mem.out.contents.length + s.mem.out.pending.length + 8 ≤ s.params.outCap := by omega
  have hemit := emitBlock_room (s := (pollFillBlock (pollInitBlock s).ok).ok) hl hr rfl hroom
  calc writerPolls (k + 3) s
    _ = writerPolls (k + 2) (pollInitBlock s).ok := writerPolls_succ _ hi hb (writerTransition_initBlock hs) rfl
    _ = writerPolls (k + 1) (pollFillBlock (pollInitBlock s).ok).ok := writerPolls_succ _ hi hb rfl rfl
    _ = writerPolls k (afterBlock s) := writerPolls_succ _ hi hb hemit rfl

theorem toNat_bidx_succ (h : s.writer.bidx.toNat + (m + 1) = s.writer.n.toNat) :
    (s.writer.bidx + 1#4).toNat = s.writer.bidx.toNat + 1 := by
  have hlt := s.writer.n.isLt
  rw [BitVec.toNat_add, BitVec.toNat_ofNat]
  omega

theorem afterBlock_out_length (s : State) :
    (afterBlock s).mem.out.contents.length = s.mem.out.contents.length + 8 := List.length_append

/-- A block that is not the last leaves the writer before the next. -/
theorem BlockStart.next (h : BlockStart (m + 2) s) : BlockStart (m + 1) (afterBlock s) where
  initialized := h.initialized
  not_busy := rfl
  state := by
    have hleft := h.left
    refine if_pos ?_
    rw [BitVec.lt_def, toNat_bidx_succ hleft]
    omega
  left := by
    have hleft := h.left
    refine (congrArg (· + (m + 1)) (toNat_bidx_succ hleft)).trans ?_
    show s.writer.bidx.toNat + 1 + (m + 1) = s.writer.n.toNat
    omega
  unlocked := h.unlocked
  plain := h.plain
  room := by
    have hroom := h.room
    show (afterBlock s).mem.out.contents.length + s.mem.out.pending.length + 8 * (m + 1) ≤ s.params.outCap
    rw [afterBlock_out_length]
    omega

end

/-! ## The blocks of a frame -/

/-- How many bytes of the snapshot the next `m + 1` blocks take. -/
def bytesTaken (m : Nat) (s : State) : Nat := min (6 * (m + 1)) s.writer.remaining.toNat

/-- The state after the last `m + 1` blocks of a frame: their bytes are gone from `SRC`, the blocks stand in `OUT`, and
the last of them in the writer's registers. -/
def afterBlocks (m : Nat) (s : State) : State :=
  let last := ((snapshot s).drop (6 * m)).take 6
  let blocks := payloadBlocks s.params.checksumId (m + 1) (snapshot s)
  (((s.setSrc { s.mem.src with contents := s.mem.src.contents.drop (bytesTaken m s) }).putOut
    (blocks.flatMap Blk8.toList)).setWriter { s.writer with
      state := .unlockBuffer, busy := false, bidx := s.writer.n, byteIdx := 8#4
      remaining := s.writer.remaining - BitVec.ofNat 7 (bytesTaken m s), raw := pad6 last
      enc := encodeBlock s.params.checksumId last }).ok

/-- The block filled next is the first slice of the snapshot. -/
theorem take_snapshot (s : State) :
    s.mem.src.contents.take (min 6 s.writer.remaining.toNat) = (snapshot s).take 6 := List.take_take.symm

theorem toNat_remaining_afterBlock (s : State) :
    (afterBlock s).writer.remaining.toNat = s.writer.remaining.toNat - min 6 s.writer.remaining.toNat :=
  toNat_sub_ofNat (Nat.min_le_right 6 _)

theorem snapshot_afterBlock (s : State) : snapshot (afterBlock s) = (snapshot s).drop 6 := by
  rw [snapshot, snapshot, toNat_remaining_afterBlock, List.drop_take]
  show (s.mem.src.contents.drop (min 6 s.writer.remaining.toNat)).take _ = _
  obtain h | h := Nat.le_total 6 s.writer.remaining.toNat
  · rw [Nat.min_eq_left h]
  · rw [Nat.min_eq_right h, Nat.sub_self, Nat.sub_eq_zero_of_le h, List.take_zero, List.take_zero]

theorem afterBlock_eq_afterBlocks {s : State} (h : s.writer.bidx + 1#4 = s.writer.n) :
    afterBlock s = afterBlocks 0 s := by
  have hlast : ¬ s.writer.n < s.writer.n := by simp
  simp only [afterBlock, afterBlocks, bytesTaken, take_snapshot, h, if_neg hlast, payloadBlocks, List.flatMap_cons,
    List.flatMap_nil, List.append_nil, Nat.mul_zero, List.drop_zero, Nat.zero_add, Nat.mul_one]

section

variable (m : Nat) (s : State)

theorem bytesTaken_le : bytesTaken m s ≤ s.writer.remaining.toNat := Nat.min_le_right _ _

theorem bytesTaken_afterBlock :
    min 6 s.writer.remaining.toNat + bytesTaken m (afterBlock s) = bytesTaken (m + 1) s := by
  have hrem := toNat_remaining_afterBlock s
  unfold bytesTaken
  omega

theorem src_drop_afterBlock : (afterBlock s).mem.src.contents.drop (bytesTaken m (afterBlock s)) =
    s.mem.src.contents.drop (bytesTaken (m + 1) s) := by
  rw [← bytesTaken_afterBlock, ← List.drop_drop]
  rfl

theorem remaining_sub_afterBlock :
    (afterBlock s).writer.remaining - BitVec.ofNat 7 (bytesTaken m (afterBlock s)) =
      s.writer.remaining - BitVec.ofNat 7 (bytesTaken (m + 1) s) := by
  refine BitVec.eq_of_toNat_eq ?_
  rw [toNat_sub_ofNat (bytesTaken_le _ _), toNat_sub_ofNat (bytesTaken_le _ _), toNat_remaining_afterBlock, Nat.sub_sub,
    bytesTaken_afterBlock]

theorem out_append_afterBlock :
    (afterBlock s).mem.out.contents ++
        (payloadBlocks s.params.checksumId (m + 1) (snapshot (afterBlock s))).flatMap Blk8.toList =
      s.mem.out.contents ++ (payloadBlocks s.params.checksumId (m + 2) (snapshot s)).flatMap Blk8.toList := by
  have hcons : payloadBlocks s.params.checksumId (m + 2) (snapshot s) =
    encodeBlock s.params.checksumId ((snapshot s).take 6) ::
      payloadBlocks s.params.checksumId (m + 1) ((snapshot s).drop 6) := rfl
  rw [snapshot_afterBlock, hcons, List.flatMap_cons, ← List.append_assoc, ← take_snapshot]
  rfl

theorem last_afterBlock :
    (snapshot (afterBlock s)).drop (6 * m) = (snapshot s).drop (6 * (m + 1)) := by
  rw [snapshot_afterBlock, List.drop_drop, Nat.mul_succ, Nat.add_comm 6]

/-- The first block and then the others are all the blocks. -/
theorem afterBlocks_afterBlock : afterBlocks m (afterBlock s) = afterBlocks (m + 1) s := by
  have hparams : (afterBlock s).params = s.params := rfl
  simp only [afterBlocks, State.putOut, src_drop_afterBlock, remaining_sub_afterBlock, last_afterBlock,
    State.setSrc_mem_out, hparams, out_append_afterBlock]
  rfl

end

theorem BlockStart.writerPolls_blocks (k m : Nat) : ∀ {s : State}, BlockStart (m + 1) s →
    writerPolls (k + 3 * (m + 1)) s = writerPolls k (afterBlocks m s) := by
  induction m with
  | zero =>
    intro s h
    rw [h.writerPolls_block k, afterBlock_eq_afterBlocks]
    exact BitVec.eq_of_toNat_eq ((toNat_bidx_succ h.left).trans h.left)
  | succ m ih =>
    intro s h
    calc writerPolls (k + 3 * (m + 1 + 1)) s
      _ = writerPolls (k + 3 * (m + 1)) (afterBlock s) := h.writerPolls_block _
      _ = writerPolls k (afterBlocks m (afterBlock s)) := ih h.next
      _ = writerPolls k (afterBlocks (m + 1) s) := by rw [afterBlocks_afterBlock]

/-! ## A frame -/

/-- The writer stands before a frame of `W.n` blocks with room for it in `OUT` (R79, R80). -/
structure FrameStart (s : State) : Prop where
  initialized : s.writer.initialized = true
  not_busy : s.writer.busy = false
  state : s.writer.state = .emitStart1
  bidx : s.writer.bidx = 0#4
  n_pos : s.writer.n ≠ 0#4
  unlocked : s.mem.out.locked = false
  plain : s.mem.out.rw = false
  room : s.mem.out.contents.length + s.mem.out.pending.length + (4 + 8 * s.writer.n.toNat) ≤ s.params.outCap

/-- The bytes of the frame of the writer's snapshot (R79, R132). -/
def snapshotFrame (s : State) : List Byte :=
  frameBytes s.writer.n (payloadBlocks s.params.checksumId s.writer.n.toNat (snapshot s))

/-- The state after the frame of the writer's snapshot is sent into an `OUT` with room for it. -/
def sentFrame (s : State) : State :=
  afterFrame s { s.mem.out with contents := s.mem.out.contents ++ snapshotFrame s }

/-- The state before the first block: the two start bytes are out. -/
def afterStart (s : State) : State :=
  ((s.putOut [controlByte 0xC#4 s.writer.n, controlByte 0xD#4 s.writer.n]).gotoW .initBlock).ok

/-- The state once the two end bytes are out and `SRC` is unlocked. -/
def afterEnd (s : State) : State :=
  (((s.setSrc s.mem.src.releaseLock).putOut
    [controlByte 0xE#4 s.writer.n, controlByte 0xF#4 s.writer.n]).gotoW .signalListener).ok

theorem afterStart_out_length (s : State) :
    (afterStart s).mem.out.contents.length = s.mem.out.contents.length + 2 := List.length_append

/-- Start bytes, blocks and end bytes are the frame. -/
theorem afterEnd_afterBlocks_afterStart {m : Nat} {s : State} (hb : s.writer.busy = false)
    (hn : s.writer.n.toNat = m + 1) : afterEnd (afterBlocks m (afterStart s)) = (sentFrame s).ok := by
  have hout : s.mem.out.contents ++ [controlByte 0xC#4 s.writer.n, controlByte 0xD#4 s.writer.n] ++
        (payloadBlocks s.params.checksumId (m + 1) (snapshot s)).flatMap Blk8.toList ++
        [controlByte 0xE#4 s.writer.n, controlByte 0xF#4 s.writer.n] = s.mem.out.contents ++ snapshotFrame s := by
    simp only [snapshotFrame, frameBytes, hn, List.append_assoc]
  rw [sentFrame, ← hout]
  simp only [afterFrame, hn, hb, Nat.add_sub_cancel]
  rfl

theorem flatMap_toList_length (bs : List Blk8) : (bs.flatMap Blk8.toList).length = 8 * bs.length := by
  have h := frameBytes_length 0#4 bs
  simp only [frameBytes, List.length_append, List.length_cons, List.length_nil] at h
  omega

theorem afterBlocks_out_length (m : Nat) (s : State) :
    (afterBlocks m s).mem.out.contents.length = s.mem.out.contents.length + 8 * (m + 1) := by
  refine List.length_append.trans ?_
  rw [flatMap_toList_length, payloadBlocks_length]
  rfl

/-- R112, R132, R135: the polls that send a frame. -/
theorem FrameStart.writerPolls_frame {s : State} (h : FrameStart s) (k : Nat) :
    writerPolls (k + (5 + 3 * s.writer.n.toNat)) s = writerPolls k (sentFrame s).ok := by
  obtain ⟨hi, hb, hs, hbidx, hn0, hl, hr, hroom⟩ := h
  obtain ⟨m, hn⟩ : ∃ m, s.writer.n.toNat = m + 1 :=
    Nat.exists_eq_add_one_of_ne_zero fun h0 => hn0 (BitVec.eq_of_toNat_eq h0)
  have hroomStart : (afterStart s).mem.out.contents.length + s.mem.out.pending.length + 8 * (m + 1) ≤
      s.params.outCap := by
    rw [afterStart_out_length]
    omega
  have hroomEnd : (afterBlocks m (afterStart s)).mem.out.contents.length + s.mem.out.pending.length + 2 ≤
      s.params.outCap := by
    rw [afterBlocks_out_length, afterStart_out_length]
    omega
  have hleft : s.writer.bidx.toNat + (m + 1) = s.writer.n.toNat := by simp [hbidx, hn]
  have hblocks : BlockStart (m + 1) (afterStart s) := ⟨hi, hb, rfl, hleft, hl, hr, hroomStart⟩
  rw [hn]
  calc writerPolls (k + (5 + 3 * (m + 1))) s
    _ = writerPolls (k + 3 + 3 * (m + 1) + 2) s := by congr 1; omega
    _ = writerPolls (k + 3 + 3 * (m + 1)) (afterStart s) :=
      writerPolls_putPair _ hi hb (by rw [writerTransition, hs]) (fun t ht => by rw [writerTransition, ht]) hl hr
        (by omega)
    _ = writerPolls (k + 3) (afterBlocks m (afterStart s)) := hblocks.writerPolls_blocks _ _
    _ = writerPolls (k + 2) (pollUnlockBuffer (afterBlocks m (afterStart s))).ok := writerPolls_succ _ hi rfl rfl rfl
    _ = writerPolls k (afterEnd (afterBlocks m (afterStart s))) :=
      writerPolls_putPair _ hi rfl rfl (fun t ht => by rw [writerTransition, ht]) hl hr hroomEnd
    _ = writerPolls k (sentFrame s).ok := by rw [afterEnd_afterBlocks_afterStart hb hn]

theorem frameStart_of_frameReady {s : State} {n : BitVec 4} {blocks : List WireBlock} (h : FrameReady s n blocks) :
    FrameStart s := by
  obtain ⟨hi, ⟨hs, hb, hbidx, rfl, hn, -⟩, hl, hr, hroom⟩ := h
  exact ⟨hi, hb, hs, hbidx, hn, hl, hr, hroom⟩

/-- Settles O28: both sides are the frame of the snapshot sent (`FrameStart.writerPolls_frame`, `exec_frame`). -/
theorem pollsSendExactlyTheFrame : Obligations.PollsSendExactlyTheFrame := by
  intro s n blocks h hok
  obtain ⟨-, -, -, hn, -, hblocks⟩ := h.ready
  have hpolls := (frameStart_of_frameReady h).writerPolls_frame 0
  rw [Nat.zero_add, hn] at hpolls
  have hanswer : (sentFrame s).ok = sentFrame s := State.ok_self hok
  rw [hpolls, hanswer, exec_frame h, hblocks, ← hn]
  rfl

/-! ## A payload -/

/-- The writer waits in `Idle` with its registrations made and a trigger set (R113, R114). -/
structure Armed (s : State) : Prop where
  initialized : s.writer.initialized = true
  not_busy : s.writer.busy = false
  state : s.writer.state = .idle
  regOut : s.writer.regOut = true
  regLsn : s.writer.regLsn = true
  triggered : s.writer.triggered = true

/-- The state in which the locked payload is about to be looked at (R115). -/
def afterLock (s : State) : State := ((s.setSrc { s.mem.src with locked := true }).gotoW .computeBlockCount).ok

theorem Armed.writerPolls_lock {s : State} (h : Armed s) (k : Nat) :
    writerPolls (k + 3) s = writerPolls k (afterLock s) := by
  obtain ⟨hi, hb, hs, hout, hlsn, ht⟩ := h
  have hidle : writerTransition s = s.gotoW .waitForTrigger := by
    rw [writerTransition_idle hs, hout, hlsn]
    rfl
  have hwait : writerTransition (s.gotoW .waitForTrigger).ok = (s.gotoW .lockBuffer).ok := by
    refine (writerTransition_waitForTrigger rfl).trans ?_
    rw [show (s.gotoW .waitForTrigger).ok.writer.triggered = true from ht]
    rfl
  calc writerPolls (k + 3) s
    _ = writerPolls (k + 2) (s.gotoW .waitForTrigger).ok := writerPolls_succ _ hi hb hidle rfl
    _ = writerPolls (k + 1) (s.gotoW .lockBuffer).ok := writerPolls_succ _ hi hb hwait rfl
    _ = writerPolls k (afterLock s) := writerPolls_succ _ hi hb (writerTransition_lockBuffer rfl) rfl

/-- The state at `EmitStart1` before a payload that fits a frame (R116). -/
def afterCount (s : State) : State :=
  (s.setWriter { s.writer with
    n := BitVec.ofNat 4 ((s.mem.src.contents.length + 5) / 6)
    remaining := BitVec.ofNat 7 s.mem.src.contents.length, bidx := 0#4, state := .emitStart1 }).ok

theorem afterCount_n {s : State} (h90 : s.mem.src.contents.length ≤ 90) :
    (afterCount s).writer.n.toNat = (s.mem.src.contents.length + 5) / 6 := (toNat_blockCount h90).1

theorem afterCount_remaining {s : State} (h90 : s.mem.src.contents.length ≤ 90) :
    (afterCount s).writer.remaining.toNat = s.mem.src.contents.length := (toNat_blockCount h90).2

theorem snapshot_afterCount {s : State} (h90 : s.mem.src.contents.length ≤ 90) :
    snapshot (afterCount s) = s.mem.src.contents := by
  rw [snapshot, afterCount_remaining h90]
  exact List.take_length

section

variable {s : State} (h : Armed s)

include h

theorem Armed.writerPolls_payload (h1 : 1 ≤ s.mem.src.contents.length) (h90 : s.mem.src.contents.length ≤ 90)
    (hl : s.mem.out.locked = false) (hr : s.mem.out.rw = false)
    (hroom : s.mem.out.contents.length + s.mem.out.pending.length + (4 + 8 * ((s.mem.src.contents.length + 5) / 6)) ≤
      s.params.outCap) :
    writerPolls (10 + 3 * ((s.mem.src.contents.length + 5) / 6)) s =
      .next (pollSignalListener (sentFrame (afterCount (afterLock s)))).ok := by
  have hi := h.initialized
  have hb := h.not_busy
  have hn : (afterCount (afterLock s)).writer.n.toNat = (s.mem.src.contents.length + 5) / 6 := afterCount_n h90
  have hn0 : (afterCount (afterLock s)).writer.n ≠ 0#4 := by
    intro h0
    rw [h0] at hn
    simp only [BitVec.toNat_ofNat] at hn
    omega
  have hstart : FrameStart (afterCount (afterLock s)) := ⟨hi, hb, rfl, rfl, hn0, hl, hr, hn ▸ hroom⟩
  rw [← hn]
  generalize hk : (afterCount (afterLock s)).writer.n.toNat = k
  calc writerPolls (10 + 3 * k) s
    _ = writerPolls (1 + (5 + 3 * k) + 1 + 3) s := by congr 1; omega
    _ = writerPolls (1 + (5 + 3 * k) + 1) (afterLock s) := h.writerPolls_lock _
    _ = writerPolls (1 + (5 + 3 * k)) (afterCount (afterLock s)) :=
      writerPolls_succ _ hi hb (writerTransition_payload rfl h1 h90) rfl
    _ = writerPolls 1 (sentFrame (afterCount (afterLock s))).ok := hk ▸ hstart.writerPolls_frame 1
    _ = .next (pollSignalListener (sentFrame (afterCount (afterLock s)))).ok := writerPolls_succ 0 hi hb rfl rfl

theorem Armed.writerPolls_noPayload (hf : s.mem.src.contents.length = 0) :
    writerPolls 5 s = .next ((s.setSrc s.mem.src.releaseLock).finishFrame.gotoW .idle).ok := by
  have hi := h.initialized
  have hb := h.not_busy
  calc writerPolls 5 s
    _ = writerPolls 2 (afterLock s) := h.writerPolls_lock 2
    _ = writerPolls 1 ((s.setSrc s.mem.src.releaseLock).gotoW .reset).ok :=
      writerPolls_succ 1 hi hb (writerTransition_noPayload rfl hf) rfl
    _ = .next ((s.setSrc s.mem.src.releaseLock).finishFrame.gotoW .idle).ok :=
      writerPolls_succ 0 hi hb (writerTransition_reset rfl) rfl

theorem Armed.writerPolls_tooLarge (hf : 90 < s.mem.src.contents.length) :
    writerPolls 5 s = .next (((s.setSrc { s.mem.src with contents := [], locked := false }).raiseW
      .payloadTooLarge).finishFrame.gotoW .idle).ok := by
  have hi := h.initialized
  have hb := h.not_busy
  calc writerPolls 5 s
    _ = writerPolls 2 (afterLock s) := h.writerPolls_lock 2
    _ = writerPolls 1 (((afterLock s).setSrc (afterLock s).mem.src.clear).raiseW .payloadTooLarge).enterErrorW.ok :=
      writerPolls_succ 1 hi hb (writerTransition_tooLarge rfl hf) rfl
    _ = .next (((s.setSrc { s.mem.src with contents := [], locked := false }).raiseW
      .payloadTooLarge).finishFrame.gotoW .idle).ok := writerPolls_succ 0 hi hb (writerTransition_processError rfl) rfl

end

/-- Settles O29, by the run of `Armed.writerPolls_payload`: what the frame took from `SRC` is all there was. -/
theorem writerSendsThePayload : Obligations.WriterSendsThePayload := by
  intro s hi hb hs hout hlsn ht hl hr p n h1 h90 hroom
  have harmed : Armed s := ⟨hi, hb, hs, hout, hlsn, ht⟩
  have hn : (afterCount (afterLock s)).writer.n.toNat = n := afterCount_n h90
  have hrem : (afterCount (afterLock s)).writer.remaining.toNat = p.length := afterCount_remaining h90
  have hsnap : snapshot (afterCount (afterLock s)) = p := snapshot_afterCount h90
  have hframe : snapshotFrame (afterCount (afterLock s)) =
      frameBytes (BitVec.ofNat 4 n) (payloadBlocks s.params.checksumId n p) := by
    rw [snapshotFrame, hn, hsnap]
    rfl
  have hdrained : p.drop (min (6 * (afterCount (afterLock s)).writer.n.toNat)
      (afterCount (afterLock s)).writer.remaining.toNat) = [] := by
    rw [hn, hrem]
    exact List.drop_of_length_le (by omega)
  refine ⟨_, harmed.writerPolls_payload h1 h90 hl hr hroom, rfl, rfl, ?out, ?src, hn, hn, rfl, ht, rfl, rfl, rfl, rfl,
    rfl, rfl, rfl, rfl⟩
  case out =>
    rw [← hframe]
    rfl
  case src =>
    rw [← hdrained]
    rfl

/-- Settles O30, by the two runs of five polls (`Armed.writerPolls_noPayload`, `Armed.writerPolls_tooLarge`). -/
theorem emptyOrOversizedPayloadSendsNothing : Obligations.EmptyOrOversizedPayloadSendsNothing := by
  intro s hi hb hs hout hlsn ht f hf
  have harmed : Armed s := ⟨hi, hb, hs, hout, hlsn, ht⟩
  obtain h0 | h90 := hf
  case inl =>
    have hnil : s.mem.src.contents = [] := List.length_eq_zero_iff.1 h0
    refine ⟨_, harmed.writerPolls_noPayload h0, rfl, rfl, rfl, ?src, rfl, finishFrame_triggered, ?history,
      fun h => ?notTooLarge⟩
    case src =>
      rw [← hnil]
      rfl
    case history =>
      rw [if_pos h0]
      exact (List.append_nil _).symm
    case notTooLarge => omega
  case inr =>
    have hne : ¬ f = 0 := by omega
    refine ⟨_, harmed.writerPolls_tooLarge h90, rfl, rfl, rfl, rfl, rfl, finishFrame_triggered, ?history, fun _ => rfl⟩
    case history =>
      rw [if_neg hne]
      rfl

end Sys2Proof.Machine

/-!
SUPPORT. The family of 42_handler.md, part 1: the port's commands (R137 to R139) and the polls that take no byte (R143,
R144, R147 to R150). The poll of an initialized handler is the transition of its state; each transition is said once, as
the state it leads to.
-/

namespace Sys2Proof.Machine

/-! ## The port -/

section

variable {s : State} (hi : s.handler.initialized = true)

include hi

theorem exec_hSubmit_lost {b : Byte} (hput : s.mem.inb.put s.params.inCap b = none) :
    exec (.hSubmit b) s = .next ((s.raiseH .inboundWriteFailed).respond .bufferFull 0#32) := by
  refine (handlerPort_ready _ hi).trans ?_
  rw [hput]

theorem exec_hSubmit_accepted {b : Byte} {inb : Buffer} (hput : s.mem.inb.put s.params.inCap b = some inb) :
    exec (.hSubmit b) s = .next ((s.setIn inb).respond .ok 0#32) := by
  refine (handlerPort_ready _ hi).trans ?_
  rw [hput]

end

/-- Settles O37: `Put` rejects the byte (`Buffer.put_full`) or takes it (`Buffer.put_plain`). -/
theorem hSubmitPutsOrLosesTheByte : Obligations.HSubmitPutsOrLosesTheByte := by
  intro s b hi
  refine ⟨fun hfull => ?lost, fun hroom hl hr => ?accepted⟩
  case lost => exact exec_hSubmit_lost hi (Buffer.put_full b hfull)
  case accepted => exact exec_hSubmit_accepted hi (Buffer.put_plain b hroom hl hr)

/-- Settles O38: behind the port's guard (`handlerPort_ready`) each registration tests the state only. -/
theorem handlerRegistersInIdleOnly : Obligations.HandlerRegistersInIdleOnly :=
  fun _ hi =>
    ⟨fun hs => ⟨(handlerPort_ready _ hi).trans (if_pos hs), (handlerPort_ready _ hi).trans (if_pos hs)⟩,
      fun hs => ⟨(handlerPort_ready _ hi).trans (if_neg hs), (handlerPort_ready _ hi).trans (if_neg hs)⟩⟩

/-! ## The outer states -/

/-- R141: the poll, by the row of `handlerTransition` for the current state. -/
theorem exec_hPoll_of_eq {s t : State} (hi : s.handler.initialized = true) (h : handlerTransition s = t) :
    exec .hPoll s = .next (t.respond .ok 0#32) :=
  h ▸ exec_hPoll hi

section

variable {s : State}

theorem gotoH_self {q : HState} (hs : s.handler.state = q) : s.gotoH q = s := by
  subst hs
  rfl

theorem handlerTransition_registered (hs : s.handler.state = .idle) (happ : s.handler.regApp = true)
    (hlsn : s.handler.regLsn = true) : handlerTransition s = s.gotoH .waitForBytes := by
  rw [handlerTransition, hs]
  exact if_pos ⟨happ, hlsn⟩

theorem handlerTransition_unregistered (hs : s.handler.state = .idle)
    (hreg : s.handler.regApp = false ∨ s.handler.regLsn = false) :
    handlerTransition s = s.raiseH .listenerNotRegistered := by
  rw [handlerTransition, hs]
  refine if_neg fun ⟨happ, hlsn⟩ => ?_
  simp [happ, hlsn] at hreg

theorem handlerTransition_waitForBytes (hs : s.handler.state = .waitForBytes) :
    handlerTransition s = s.gotoH (if s.mem.inb.contents = [] then .waitForBytes else .getByte) := by
  rw [handlerTransition, hs]
  cases hin : s.mem.inb.contents with
  | nil => simp [pollWaitForBytes, Buffer.isEmpty, hin, gotoH_self hs]
  | cons b bs => simp [pollWaitForBytes, Buffer.isEmpty, hin]

theorem handlerTransition_getByte (hs : s.handler.state = .getByte) : handlerTransition s = pollGetByte s := by
  rw [handlerTransition, hs]

theorem handlerTransition_handleBlock (hs : s.handler.state = .handleBlock) :
    handlerTransition s = pollHandleBlock s := by
  rw [handlerTransition, hs]

theorem handlerTransition_checkFinal (hs : s.handler.state = .checkFinal) :
    handlerTransition s = pollCheckFinal s := by
  rw [handlerTransition, hs]

theorem handlerTransition_waitProcessed (hs : s.handler.state = .waitProcessed) :
    handlerTransition s = s.gotoH (if s.appLsn then .waitProcessed else .completeReset) := by
  rw [handlerTransition, hs]
  cases hlsn : s.appLsn
  · exact if_pos hlsn
  · exact (if_neg (by simp [hlsn])).trans (gotoH_self hs).symm

theorem handlerTransition_completeReset (hs : s.handler.state = .completeReset) :
    handlerTransition s = s.perFrameClear.gotoH .idle := by
  rw [handlerTransition, hs]
  rfl

theorem handlerTransition_processError (hs : s.handler.state = .processError) :
    handlerTransition s = s.leaveErrorH := by
  rw [handlerTransition, hs]
  rfl

end

/-- Settles O41, by the two outcomes of the transition in `Idle`. -/
theorem hPollLeavesIdleWhenRegistered : Obligations.HPollLeavesIdleWhenRegistered :=
  fun _ hi hs => ⟨fun happ hlsn => exec_hPoll_of_eq hi (handlerTransition_registered hs happ hlsn),
    fun hreg => exec_hPoll_of_eq hi (handlerTransition_unregistered hs hreg)⟩

/-- Settles O42: one row of `handlerTransition` for each of the three states. -/
theorem hPollWaitsAndResets : Obligations.HPollWaitsAndResets :=
  fun _ hi => ⟨fun hs => exec_hPoll_of_eq hi (handlerTransition_waitForBytes hs),
    fun hs => exec_hPoll_of_eq hi (handlerTransition_waitProcessed hs),
    fun hs => exec_hPoll_of_eq hi (handlerTransition_completeReset hs)⟩

/-- Settles O52: the transition leaves the error state (`State.leaveErrorH_eq`). -/
theorem hPollProcessesTheError : Obligations.HPollProcessesTheError := by
  intro s hi hs
  rw [exec_hPoll_of_eq hi (handlerTransition_processError hs), State.leaveErrorH_eq]
  rfl

/-! ## The sample point (R147) -/

theorem accLegal_iff {a : BitVec 4} : accLegal a = true ↔ a ∈ ([0#4, 1#4, 3#4, 7#4, 15#4] : List (BitVec 4)) := by
  revert a
  decide

theorem legal_of_unfinished {a : BitVec 4} (h : a ∈ ([0#4, 1#4, 3#4, 7#4] : List (BitVec 4))) :
    accLegal a = true ∧ a ≠ accFinished := by
  revert a
  decide

section

variable {s : State}

theorem pollCheckFinal_pending (hp : s.handler.pend ≠ .none) : pollCheckFinal s = s.enterErrorH := if_pos hp

variable (hp : s.handler.pend = .none)

include hp

theorem pollCheckFinal_illegal (ha : accLegal s.handler.acc = false) :
    pollCheckFinal s = (s.pendH .markerAccumulatorInvalid).enterErrorH :=
  (if_neg (not_not_intro hp)).trans (if_pos ha)

theorem pollCheckFinal_waits (ha : accLegal s.handler.acc = true) (hne : s.handler.acc ≠ accFinished) :
    pollCheckFinal s = s.gotoH .waitForBytes :=
  (if_neg (not_not_intro hp)).trans ((if_neg (by simp [ha])).trans (if_neg hne))

theorem pollCheckFinal_incomplete (ha : s.handler.acc = accFinished)
    (hn : s.handler.blocks ≠ s.handler.frameN ∨ s.handler.i ≠ 0#3) :
    pollCheckFinal s = (s.pendH .blockIndexOutOfBounds).enterErrorH :=
  (if_neg (not_not_intro hp)).trans ((if_neg (by simp [ha, accLegal])).trans ((if_pos ha).trans
    (if_neg (not_and_or.2 hn))))

end

/-- Settles O51: the five cases of the sample point, in R181's order. -/
theorem hPollSamplesTheAccumulator : Obligations.HPollSamplesTheAccumulator := by
  intro s hi hs
  have hpoll {t : State} (h : pollCheckFinal s = t) : exec .hPoll s = .next (t.respond .ok 0#32) :=
    exec_hPoll_of_eq hi ((handlerTransition_checkFinal hs).trans h)
  refine ⟨fun hp => ?pending, fun hp ha => ?illegal, fun hp ha => ?waits, fun hp ha hb hidx => ?commit,
    fun hp ha hn => ?incomplete⟩
  case pending => exact hpoll (pollCheckFinal_pending hp)
  case illegal => exact hpoll (pollCheckFinal_illegal hp (Bool.eq_false_iff.2 (mt accLegal_iff.1 ha)))
  case waits => exact hpoll (pollCheckFinal_waits hp (legal_of_unfinished ha).1 (legal_of_unfinished ha).2)
  case commit => exact hpoll (pollCheckFinal_commit ⟨hp, ha, hb, hidx⟩)
  case incomplete => exact hpoll (pollCheckFinal_incomplete hp ha hn)

end Sys2Proof.Machine

/-!
SUPPORT. The family of 42_handler.md, part 2: the wire bytes (R145, R146, R151 to R160). At `GetByte` the row of a byte
takes it from `IN`: a payload byte by the accumulator, a control byte by the three outcomes of `CTRL`. In `HandleBlock`
the row of a payload byte is the block phase on `H.cur`.
-/

namespace Sys2Proof.Machine

/-! ## A byte at the front of `IN` -/

theorem eq_byte_of_toNat {b : Byte} {c : WireClass} (h : b.toNat = c.base + c.field) : b = c.byte :=
  BitVec.eq_of_toNat_eq (h.trans c.byte_toNat.symm)

theorem takeIn_eq {s : State} {b : Byte} {rest : List Byte} (h : s.mem.inb.contents = b :: rest) :
    s.takeIn = s.setIn { s.mem.inb with contents := rest } := by
  rw [State.takeIn, h, List.drop_one, List.tail_cons]

/-- At `GetByte` the row of the byte at the front of `IN` takes it. -/
theorem exec_instr_taken {c : WireClass} {s : State} {b : Byte} {rest : List Byte}
    (hi : s.handler.initialized = true) (hs : s.handler.state = .getByte) (hin : s.mem.inb.contents = b :: rest)
    (hb : b.toNat = c.base + c.field) : exec c.instr s = .next (takeByte c s) := by
  rw [exec_instr_getByte c hs]
  refine takenFromIn_ready _ hi hs ?_
  rw [hin, List.head?_cons, eq_byte_of_toNat hb]

/-! ## A payload byte taken (R145) -/

/-- The bytes below `0xC0` are the payload bytes (R84). -/
theorem takeByte_payload {c : WireClass} (h : c.byte.toNat < 0xC0) (s : State) :
    takeByte c s = takePayload c.byte s := by
  rw [c.byte_toNat] at h
  cases c
  case data d => rfl
  case mask m => rfl
  all_goals
    simp only [WireClass.base] at h
    omega

section

variable {s : State} {b : Byte} {rest : List Byte} (hin : s.mem.inb.contents = b :: rest)

include hin

theorem takePayload_started (ha : s.handler.acc = accStarted) : takePayload b s =
    ((s.setIn { s.mem.inb with contents := rest }).setHandler { s.handler with cur := b }).gotoH .handleBlock := by
  rw [takePayload, takeIn_eq hin]
  exact if_pos ha

theorem takePayload_prestart (ha : s.handler.acc = accPrestart) : takePayload b s =
    ((s.setIn { s.mem.inb with contents := rest }).pendH .start1WithoutStart2).gotoH .checkFinal := by
  rw [takePayload, takeIn_eq hin]
  exact (if_neg (ha.trans_ne (by decide))).trans (if_pos ha)

theorem takePayload_elsewhere (h3 : s.handler.acc ≠ accStarted) (h1 : s.handler.acc ≠ accPrestart) :
    takePayload b s =
      ((s.setIn { s.mem.inb with contents := rest }).pendH .unexpectedControlByte).gotoH .checkFinal := by
  rw [takePayload, takeIn_eq hin]
  exact (if_neg h3).trans (if_neg h1)

end

/-- Settles O44: the row takes the byte (`exec_instr_taken`), and the accumulator routes it. -/
theorem payloadByteIsRouted : Obligations.PayloadByteIsRouted := by
  intro s i b rest hrow hi hs hin
  have htaken : exec i s = .next (takePayload b s) := by
    obtain ⟨d, rfl, hb⟩ | ⟨m, rfl, hb⟩ := hrow
    · have hb : b.toNat = (WireClass.data d).base + (WireClass.data d).field := hb.trans (Nat.zero_add _).symm
      rw [eq_byte_of_toNat hb] at hin ⊢
      exact exec_instr_taken (c := .data d) hi hs hin (WireClass.byte_toNat _)
    · have hb : b.toNat = (WireClass.mask m).base + (WireClass.mask m).field := hb
      rw [eq_byte_of_toNat hb] at hin ⊢
      exact exec_instr_taken (c := .mask m) hi hs hin (WireClass.byte_toNat _)
  rw [htaken]
  refine ⟨fun ha => ?started, fun ha => ?prestart, fun h3 h1 => ?elsewhere⟩
  case started => exact congrArg _ (takePayload_started hin ha)
  case prestart => exact congrArg _ (takePayload_prestart hin ha)
  case elsewhere => exact congrArg _ (takePayload_elsewhere hin h3 h1)

/-! ## A control byte taken (R151) -/

/-- The class of the control code `k` with count `c`. -/
def controlClass (k : Fin 4) (c : BitVec 4) : WireClass :=
  match k with
  | 0 => .sc1 c
  | 1 => .sc2 c
  | 2 => .ec1 c
  | 3 => .ec2 c

/-- The rule of the control code `k` (R153 to R156). -/
def acceptCode (k : Fin 4) (c : BitVec 4) : State → State :=
  match k with
  | 0 => acceptSc1 c
  | 1 => acceptSc2 c
  | 2 => acceptEc1 c
  | 3 => acceptEc2 c

theorem controlRow_eq (k : Fin 4) (c : BitVec 4) : controlRow k c = (controlClass k c).instr := by
  match k with
  | 0 | 1 | 2 | 3 => rfl

theorem controlClass_toNat (k : Fin 4) (c : BitVec 4) :
    (controlClass k c).base + (controlClass k c).field = 0xC0 + 16 * k.val + c.toNat := by
  match k with
  | 0 | 1 | 2 | 3 => rfl

theorem takeByte_controlClass (k : Fin 4) (c : BitVec 4) (s : State) :
    takeByte (controlClass k c) s = takeControl k (acceptCode k c) s := by
  match k with
  | 0 | 1 | 2 | 3 => rfl

/-- At `GetByte` the row of the control code at the front of `IN` is `CTRL` with the code's own rule. -/
theorem exec_controlRow {s : State} {b : Byte} {rest : List Byte} {c : BitVec 4} (k : Fin 4)
    (hi : s.handler.initialized = true) (hs : s.handler.state = .getByte) (hin : s.mem.inb.contents = b :: rest)
    (hb : b.toNat = 0xC0 + 16 * k.val + c.toNat) :
    exec (controlRow k c) s = .next (takeControl k (acceptCode k c) s) := by
  rw [controlRow_eq, exec_instr_taken hi hs hin (hb.trans (controlClass_toNat k c).symm), takeByte_controlClass]

/-- The state in which a control code's rule judges it: the byte is gone from `IN`, its bit in the accumulator. -/
def State.marked (s : State) (rest : List Byte) (acc : BitVec 4) : State :=
  (s.setIn { s.mem.inb with contents := rest }).setHandler { s.handler with acc := acc }

section

variable {s : State} {b : Byte} {rest : List Byte} (hin : s.mem.inb.contents = b :: rest) {k : Nat}
  (accept : State → State)

include hin

theorem takeControl_illegal (h : accLegal (s.handler.acc ||| 1#4 <<< k) = false) :
    takeControl k accept s = (s.marked rest (s.handler.acc ||| 1#4 <<< k)).gotoH .checkFinal := by
  rw [takeControl, takeIn_eq hin, ctrl]
  exact congrArg (State.gotoH · .checkFinal) (if_pos h)

theorem takeControl_repeated (ha : accLegal s.handler.acc = true) (h : s.handler.acc ||| 1#4 <<< k = s.handler.acc) :
    takeControl k accept s =
      (repeatedCode k s.handler.acc (s.marked rest s.handler.acc)).gotoH .checkFinal := by
  rw [takeControl, takeIn_eq hin, ctrl]
  simp only [State.setIn_handler, h, ha, Bool.true_eq_false, if_false, if_true]
  rfl

theorem takeControl_accepted {acc : BitVec 4} (h : s.handler.acc ||| 1#4 <<< k = acc) (hl : accLegal acc = true)
    (hne : acc ≠ s.handler.acc) : takeControl k accept s = (accept (s.marked rest acc)).gotoH .checkFinal := by
  rw [takeControl, takeIn_eq hin, ctrl]
  simp only [State.setIn_handler, h, hl, Bool.true_eq_false, if_false, if_neg hne]
  rfl

end

/-- R152's table. -/
theorem repeatedCode_eq (k : Fin 4) (old : BitVec 4) (s : State) :
    repeatedCode k old s = s.pendH (if k = 0 ∧ old = 1#4 then .start1WithoutStart2
      else if k = 1 then .reentrantBlock else .markerOutOfPositionSequence) := by
  match k with
  | 0 => by_cases h : old = 1#4 <;> simp [repeatedCode, h]
  | 1 | 2 | 3 => rfl

/-- Settles O47: the two outcomes of `CTRL` that ask no code's rule (`takeControl_illegal`, `takeControl_repeated`). -/
theorem controlCodesOutOfPlace : Obligations.ControlCodesOutOfPlace := by
  intro s k c b rest hi hs hin hb hl
  dsimp only
  rw [exec_controlRow k hi hs hin hb]
  refine ⟨fun hnext => ?illegal, fun hnext => ?repeated⟩
  case illegal => exact congrArg _ (takeControl_illegal hin _ hnext)
  case repeated =>
    rw [takeControl_repeated hin _ hl hnext, repeatedCode_eq]
    rfl

/-! ## The rules of the control codes (R153 to R156) -/

section

variable {s : State} {c : BitVec 4}

theorem acceptSc1_zero (hc : c = 0#4) : acceptSc1 c s = s.pendH .unexpectedControlByte := if_pos hc

theorem acceptSc1_count (hc : c ≠ 0#4) :
    acceptSc1 c s = s.setHandler { s.handler with frameN := c, blocks := 0#4, i := 0#3 } := if_neg hc

theorem acceptSc2_mismatch (hc : c ≠ s.handler.frameN) : acceptSc2 c s = s.pendH .unexpectedControlByte := if_pos hc

theorem acceptSc2_match (hc : c = s.handler.frameN) : acceptSc2 c s =
    (s.setApp s.mem.app.openRW).setHandler { s.handler with rwOpen := true, blocks := 0#4, i := 0#3 } :=
  if_neg (not_not_intro hc)

theorem acceptEc1_mismatch (hc : c ≠ s.handler.frameN) : acceptEc1 c s = s.pendH .unexpectedControlByte := if_pos hc

theorem acceptEc1_incomplete (hc : c = s.handler.frameN)
    (hn : s.handler.blocks ≠ s.handler.frameN ∨ s.handler.i ≠ 0#3) :
    acceptEc1 c s = s.pendH .blockIndexOutOfBounds :=
  (if_neg (not_not_intro hc)).trans (if_pos hn)

theorem acceptEc1_match (hc : c = s.handler.frameN) (hb : s.handler.blocks = s.handler.frameN)
    (hidx : s.handler.i = 0#3) : acceptEc1 c s = s :=
  (if_neg (not_not_intro hc)).trans (if_neg (by simp [hb, hidx]))

theorem acceptEc2_mismatch (hc : c ≠ s.handler.frameN) : acceptEc2 c s = s.pendH .unexpectedControlByte := if_pos hc

theorem acceptEc2_match (hc : c = s.handler.frameN) : acceptEc2 c s = s := if_neg (not_not_intro hc)

end

/-! Each control code in its place: the accumulator before it and after it (R37, R151). -/

section

variable {s t : State} {b : Byte} {rest : List Byte} (hin : s.mem.inb.contents = b :: rest) {c : BitVec 4}

include hin

theorem takeSc1_inPlace (ha : s.handler.acc = accNone) (h : acceptSc1 c (s.marked rest accPrestart) = t) :
    takeSc1 c s = t.gotoH .checkFinal :=
  h ▸ takeControl_accepted hin _ (by rw [ha]; rfl) rfl (by rw [ha]; decide)

theorem takeSc2_inPlace (ha : s.handler.acc = accPrestart) (h : acceptSc2 c (s.marked rest accStarted) = t) :
    takeSc2 c s = t.gotoH .checkFinal :=
  h ▸ takeControl_accepted hin _ (by rw [ha]; rfl) rfl (by rw [ha]; decide)

theorem takeEc1_inPlace (ha : s.handler.acc = accStarted) (h : acceptEc1 c (s.marked rest accPrefinish) = t) :
    takeEc1 c s = t.gotoH .checkFinal :=
  h ▸ takeControl_accepted hin _ (by rw [ha]; rfl) rfl (by rw [ha]; decide)

theorem takeEc2_inPlace (ha : s.handler.acc = accPrefinish) (h : acceptEc2 c (s.marked rest accFinished) = t) :
    takeEc2 c s = t.gotoH .checkFinal :=
  h ▸ takeControl_accepted hin _ (by rw [ha]; rfl) rfl (by rw [ha]; decide)

end

/-- Settles O45: both codes in their place (`takeSc1_inPlace`, `takeSc2_inPlace`), by the outcomes of R153 and R154. -/
theorem startCodesAreAccepted : Obligations.StartCodesAreAccepted := by
  intro s c b rest hi hs hin
  refine ⟨fun hb ha => ?sc1, fun hb ha => ?sc2⟩
  case sc1 =>
    rw [show exec (.wireSc1 c) s = _ from exec_instr_taken (c := .sc1 c) hi hs hin hb]
    refine ⟨fun hc => congrArg _ ?zero, fun hc => congrArg _ ?count⟩
    case zero => exact takeSc1_inPlace hin ha (acceptSc1_zero hc)
    case count => exact takeSc1_inPlace hin ha (acceptSc1_count hc)
  case sc2 =>
    rw [show exec (.wireSc2 c) s = _ from exec_instr_taken (c := .sc2 c) hi hs hin hb]
    refine ⟨fun hc => congrArg _ ?mismatch, fun hc => congrArg _ ?same⟩
    case mismatch => exact takeSc2_inPlace hin ha (acceptSc2_mismatch hc)
    case same => exact takeSc2_inPlace hin ha (acceptSc2_match hc)

/-- Settles O46: both codes in their place (`takeEc1_inPlace`, `takeEc2_inPlace`), by the outcomes of R155 and R156. -/
theorem endCodesAreAccepted : Obligations.EndCodesAreAccepted := by
  intro s c b rest hi hs hin
  refine ⟨fun hb ha => ?ec1, fun hb ha => ?ec2⟩
  case ec1 =>
    rw [show exec (.wireEc1 c) s = _ from exec_instr_taken (c := .ec1 c) hi hs hin hb]
    refine ⟨fun hc => congrArg _ ?mismatch, fun hc hn => congrArg _ ?incomplete, fun hc hn hidx => congrArg _ ?same⟩
    case mismatch => exact takeEc1_inPlace hin ha (acceptEc1_mismatch hc)
    case incomplete => exact takeEc1_inPlace hin ha (acceptEc1_incomplete hc hn)
    case same => exact takeEc1_inPlace hin ha (acceptEc1_match hc hn hidx)
  case ec2 =>
    rw [show exec (.wireEc2 c) s = _ from exec_instr_taken (c := .ec2 c) hi hs hin hb]
    refine ⟨fun hc => congrArg _ ?mismatch, fun hc => congrArg _ ?same⟩
    case mismatch => exact takeEc2_inPlace hin ha (acceptEc2_mismatch hc)
    case same => exact takeEc2_inPlace hin ha (acceptEc2_match hc)

/-! ## The block phase (R146, R157 to R160) -/

theorem isBoundary_mask (m : BitVec 6) : isBoundary (WireClass.mask m).byte = true :=
  beq_iff_eq.2 (maskField_byte m).1

theorem isBoundary_data (d : BitVec 7) : isBoundary (WireClass.data d).byte = false := by
  revert d
  decide

section

variable {s t : State}

theorem collectCur_mask {m : BitVec 6} (h : s.handler.cur = (WireClass.mask m).byte) :
    collectCur s = boundary s.handler.cur s :=
  if_pos (h ▸ isBoundary_mask m)

theorem collectCur_data {d : BitVec 7} (h : s.handler.cur = (WireClass.data d).byte) :
    collectCur s = dataByte s.handler.cur s :=
  if_neg (by simp [h, isBoundary_data])

theorem pollHandleBlock_error (h : collectCur s = t) (hp : t.handler.pend ≠ .none) :
    pollHandleBlock s = t.enterErrorH := by
  rw [pollHandleBlock_eq, h]
  exact if_pos hp

theorem pollHandleBlock_collected (h : collectCur s = t) (hp : t.handler.pend = .none) :
    pollHandleBlock s = t.gotoH .checkFinal := by
  rw [pollHandleBlock_eq, h]
  exact if_neg (not_not_intro hp)

variable {b : Byte}

theorem boundary_full (h : s.handler.blocks = s.handler.frameN) : boundary b s = s.pendH .blockIndexOutOfBounds :=
  if_pos h

theorem boundary_starts (h : s.handler.blocks ≠ s.handler.frameN) :
    boundary b s = s.setHandler { s.handler with blk := { s.handler.blk with mask := b }, i := 1#3 } :=
  if_neg h

theorem dataByte_stuffing (h : s.handler.i = 0#3) : dataByte b s = s.pendH .excessiveStuffing := if_pos h

theorem dataByte_stored (h0 : s.handler.i ≠ 0#3) (h7 : s.handler.i.toNat < 7) :
    dataByte b s = s.setHandler { s.handler with
      blk := setByte s.handler.blk s.handler.i.toNat b, i := s.handler.i + 1#3 } :=
  (if_neg h0).trans (if_neg (by omega))

theorem dataByte_eighth (h : s.handler.i = 7#3) :
    dataByte b s = blockDone (s.setHandler { s.handler with blk := { s.handler.blk with d5 := b } }) := by
  simp only [dataByte, h]
  rfl

end

theorem setByte_toList (b : Blk8) (k : Nat) (v : Byte) : (setByte b k v).toList = b.toList.set k v := by
  match k with
  | 0 | 1 | 2 | 3 | 4 | 5 | 6 | 7 => rfl
  | k + 8 => rfl

/-- Settles O48: the block phase on a mask byte (`collectCur_mask`) fails or starts a block. -/
theorem maskByteStartsABlock : Obligations.MaskByteStartsABlock := by
  intro s m hi hs hb hp
  have hcur : s.handler.cur = (WireClass.mask m).byte := eq_byte_of_toNat hb
  have hmask := collectCur_mask hcur
  rw [show exec (.wireMask m) s = _ from takenOrCollected_handleBlock (takeMask m) hi hs hcur]
  refine ⟨fun hn => congrArg _ ?full, fun hn => congrArg _ ?starts⟩
  case full => exact pollHandleBlock_error (hmask.trans (boundary_full hn)) nofun
  case starts => exact pollHandleBlock_collected (hmask.trans (boundary_starts hn)) hp

section

variable {s : State} {d : BitVec 7} (hi : s.handler.initialized = true) (hs : s.handler.state = .handleBlock)
  (hb : s.handler.cur.toNat = d.toNat)

include hi hs hb

/-- In `HandleBlock` a data byte's row is the block phase on it. -/
theorem exec_wireData_handleBlock : exec (.wireData d) s = .next (pollHandleBlock s) ∧
    collectCur s = dataByte s.handler.cur s := by
  have hcur : s.handler.cur = (WireClass.data d).byte := eq_byte_of_toNat (hb.trans (Nat.zero_add _).symm)
  exact ⟨takenOrCollected_handleBlock (takeData d) hi hs hcur, collectCur_data hcur⟩

end

/-- Settles O49: the block phase on a data byte at index 0 (`dataByte_stuffing`) and inside a block
(`dataByte_stored`). -/
theorem dataByteIsCollected : Obligations.DataByteIsCollected := by
  intro s d hi hs hb hp
  obtain ⟨hrow, hdata⟩ := exec_wireData_handleBlock hi hs hb
  rw [hrow]
  refine ⟨fun h0 => congrArg _ ?stuffing, fun h0 h7 =>
    ⟨_, s.handler.i + 1#3, ?index, setByte_toList _ _ _, congrArg _ ?stored⟩⟩
  case stuffing => exact pollHandleBlock_error (hdata.trans (dataByte_stuffing h0)) nofun
  case stored =>
    have hne : s.handler.i ≠ 0#3 := fun h => by simp [h] at h0
    exact pollHandleBlock_collected (hdata.trans (dataByte_stored hne h7)) hp
  case index =>
    rw [BitVec.toNat_add, BitVec.toNat_ofNat]
    omega

/-! ## A whole block (R160) -/

section

variable {s : State}

theorem blockDone_mismatch (h : decodeBlock s.params.checksumId s.handler.blk = none) :
    blockDone s = (s.setHandler { s.handler with i := 0#3 }).pendH .checksumMismatch := by
  simp only [blockDone, State.setHandler_params, State.setHandler_handler, h]

variable {r : Raw6} (h : decodeBlock s.params.checksumId s.handler.blk = some r) (hopen : s.mem.app.rw = true)
  (hl : s.mem.app.locked = false)

include h hopen hl

theorem blockDone_noRoom (hfit : s.mem.app.contents.length + s.mem.app.pending.length ≤ s.params.appCap)
    (hroom : s.params.appCap - (s.mem.app.contents.length + s.mem.app.pending.length) < 6) :
    blockDone s = ((s.setHandler { s.handler with i := 0#3 }).setApp { s.mem.app with
      pending := s.mem.app.pending ++
        (rawList r).take (s.params.appCap - (s.mem.app.contents.length + s.mem.app.pending.length)) }).pendH
      .outboundWriteFailed := by
  have hput := Buffer.putAll_open s.params.appCap (rawList r) s.mem.app hfit hl hopen
  obtain ⟨v, vs, hleft⟩ := List.exists_cons_of_ne_nil (l := (rawList r).drop
    (s.params.appCap - (s.mem.app.contents.length + s.mem.app.pending.length))) (by simp [rawList]; omega)
  rw [hleft] at hput
  simp only [blockDone, State.setHandler_params, State.setHandler_handler, State.setHandler_mem_app, h, hput]

theorem blockDone_room (hroom : s.mem.app.contents.length + s.mem.app.pending.length + 6 ≤ s.params.appCap) :
    blockDone s = (s.setApp { s.mem.app with pending := s.mem.app.pending ++ rawList r }).setHandler
      { s.handler with i := 0#3, blocks := s.handler.blocks + 1#4 } := by
  have hput := Buffer.putAll_open s.params.appCap (rawList r) s.mem.app (by omega) hl hopen
  have hlen : (rawList r).length ≤ s.params.appCap - (s.mem.app.contents.length + s.mem.app.pending.length) := by
    show 6 ≤ _
    omega
  rw [List.take_of_length_le hlen, List.drop_of_length_le hlen] at hput
  simp only [blockDone, State.setHandler_params, State.setHandler_handler, State.setHandler_mem_app, h, hput]
  rfl

end

/-- Settles O50: the eighth byte runs `BLOCKDONE` (`dataByte_eighth`), which has three outcomes. -/
theorem eighthByteCompletesTheBlock : Obligations.EighthByteCompletesTheBlock := by
  intro s d hi hs hb hp h7 hopen hl hfit
  dsimp only
  obtain ⟨hrow, hdata⟩ := exec_wireData_handleBlock hi hs hb
  have hdone := hdata.trans (dataByte_eighth h7)
  rw [hrow]
  refine ⟨fun hdec => congrArg _ ?mismatch, fun r hdec hroom => congrArg _ ?noRoom,
    fun r hdec hroom => congrArg _ ?room⟩
  case mismatch => exact pollHandleBlock_error (hdone.trans (blockDone_mismatch hdec)) nofun
  case noRoom => exact pollHandleBlock_error (hdone.trans (blockDone_noRoom hdec hopen hl hfit hroom)) nofun
  case room =>
    have hroom : s.mem.app.contents.length + s.mem.app.pending.length + 6 ≤ s.params.appCap := by omega
    exact pollHandleBlock_collected (hdone.trans (blockDone_room hdec hopen hl hroom)) hp

end Sys2Proof.Machine

/-!
SUPPORT. The family of 42_handler.md, part 3: the polls that receive a good frame (R142, R165). While it is received
the state differs from the one before it in the handler's registers, in `APP` and in what is left of `IN`
(`State.during`). A control code takes three polls, a payload byte four; the blocks follow by induction on them.
-/

namespace Sys2Proof.Machine

/-! ## Polls in a row -/

/-- The first of some polls. -/
theorem handlerPolls_succ {s t u : State} (k : Nat) (hi : s.handler.initialized = true)
    (h : handlerTransition s = t) (hu : t.ok = u) : handlerPolls (k + 1) s = handlerPolls k u := by
  rw [← hu]
  simp only [handlerPolls, List.replicate_succ, runInstrs, exec_hPoll_of_eq hi h]

/-- A state while a frame is received, from the one it began in: the handler's registers, `APP`, and the bytes left in
`IN`; the last poll answered `OK`. -/
def State.during (s : State) (h : Handler) (app : Buffer) (rest : List Byte) : State :=
  { s with
    handler := h
    mem := { s.mem with inb := { s.mem.inb with contents := rest }, app := app }
    answer := .response .ok 0#32 }

section

variable {s u : State} {h h' : Handler} {app app' : Buffer} {rest : List Byte} (k : Nat)

/-- Two polls that take the next byte (R144, R145). -/
theorem handlerPolls_take {c : WireClass} (hi : h.initialized = true) (hs : h.state = .waitForBytes)
    (hu : (takeByte c (s.during { h with state := .getByte } app (c.byte :: rest))).ok = u) :
    handlerPolls (k + 2) (s.during h app (c.byte :: rest)) = handlerPolls k u := by
  have hwait : handlerTransition (s.during h app (c.byte :: rest)) =
      s.during { h with state := .getByte } app (c.byte :: rest) :=
    (handlerTransition_waitForBytes hs).trans (congrArg _ (if_neg (List.cons_ne_nil _ _)))
  have hget : handlerTransition (s.during { h with state := .getByte } app (c.byte :: rest)) =
      takeByte c (s.during { h with state := .getByte } app (c.byte :: rest)) :=
    (handlerTransition_getByte rfl).trans (pollGetByte_of_head rfl)
  exact (handlerPolls_succ (k + 1) hi hwait rfl).trans (handlerPolls_succ k hi hget hu)

/-- Three polls on a control code that is accepted and does not end the frame. -/
theorem handlerPolls_control {c : WireClass} {a : BitVec 4} (hi : h.initialized = true) (hs : h.state = .waitForBytes)
    (htake : (takeByte c (s.during { h with state := .getByte } app (c.byte :: rest))).ok =
      s.during { h' with state := .checkFinal } app' rest)
    (hi' : h'.initialized = true) (hp : h'.pend = .none) (ha : h'.acc = a)
    (hunfinished : accLegal a = true ∧ a ≠ accFinished) :
    handlerPolls (k + 3) (s.during h app (c.byte :: rest)) =
      handlerPolls k (s.during { h' with state := .waitForBytes } app' rest) := by
  subst ha
  rw [handlerPolls_take (k + 1) hi hs htake]
  exact handlerPolls_succ k hi'
    ((handlerTransition_checkFinal rfl).trans (pollCheckFinal_waits hp hunfinished.1 hunfinished.2)) rfl

end

/-! ## One byte of a block -/

/-- The handler waits for the next byte of the block phase. -/
structure Receiving (h : Handler) : Prop where
  initialized : h.initialized = true
  state : h.state = .waitForBytes
  acc : h.acc = accStarted
  pend : h.pend = .none

/-- R158: a block starts with this mask byte. -/
def Handler.startBlock (h : Handler) (b : Byte) : Handler :=
  { h with state := .waitForBytes, cur := b, blk := { h.blk with mask := b }, i := 1#3 }

/-- R159: the byte is stored at its index. -/
def Handler.storeByte (h : Handler) (b : Byte) : Handler :=
  { h with state := .waitForBytes, cur := b, blk := setByte h.blk h.i.toNat b, i := h.i + 1#3 }

/-- R160: the block ends with this byte, and is counted. -/
def Handler.endBlock (h : Handler) (b : Byte) : Handler :=
  { h with state := .waitForBytes, cur := b, blk := { h.blk with d5 := b }, i := 0#3, blocks := h.blocks + 1#4 }

/-- Bytes added to what is pending. -/
def Buffer.addPending (b : Buffer) (l : List Byte) : Buffer := { b with pending := b.pending ++ l }

/-- The reversible write is open and has room for `m` blocks. -/
structure OpenFor (cap m : Nat) (app : Buffer) : Prop where
  opened : app.rw = true
  unlocked : app.locked = false
  room : app.contents.length + app.pending.length + 6 * m ≤ cap

section

variable {s : State} {h h' : Handler} {app app' : Buffer} {rest : List Byte} (k : Nat) (hr : Receiving h)

include hr

/-- Four polls on a payload byte that the block phase collects without an error (R144 to R147). -/
theorem Receiving.handlerPolls_collect {c : WireClass} (hc : c.byte.toNat < 0xC0)
    (hcollect : collectCur (s.during { h with state := .handleBlock, cur := c.byte } app rest) =
      s.during { h' with state := .handleBlock } app' rest)
    (hr' : Receiving { h' with state := .waitForBytes }) :
    handlerPolls (k + 4) (s.during h app (c.byte :: rest)) =
      handlerPolls k (s.during { h' with state := .waitForBytes } app' rest) := by
  have htake : takeByte c (s.during { h with state := .getByte } app (c.byte :: rest)) =
      s.during { h with state := .handleBlock, cur := c.byte } app rest :=
    (takeByte_payload hc _).trans (takePayload_started rfl hr.acc)
  have hblock := pollHandleBlock_collected hcollect hr'.pend
  have hlegal : accLegal h'.acc = true ∧ h'.acc ≠ accFinished := by
    rw [show h'.acc = accStarted from hr'.acc]
    decide
  refine (handlerPolls_take (k + 2) hr.initialized hr.state (congrArg State.ok htake)).trans ?_
  refine (handlerPolls_succ (k + 1) hr.initialized ((handlerTransition_handleBlock rfl).trans hblock) rfl).trans ?_
  exact handlerPolls_succ k hr'.initialized
    ((handlerTransition_checkFinal rfl).trans (pollCheckFinal_waits hr'.pend hlegal.1 hlegal.2)) rfl

theorem Receiving.startBlock (b : Byte) : Receiving (h.startBlock b) := ⟨hr.initialized, rfl, hr.acc, hr.pend⟩

theorem Receiving.handlerPolls_startBlock (m : BitVec 6) (hn : h.blocks ≠ h.frameN) :
    handlerPolls (k + 4) (s.during h app ((WireClass.mask m).byte :: rest)) =
      handlerPolls k (s.during (h.startBlock (WireClass.mask m).byte) app rest) := by
  have hlt : (WireClass.mask m).byte.toNat < 0xC0 := by
    rw [WireClass.byte_toNat]
    simp only [WireClass.base, WireClass.field]
    omega
  exact hr.handlerPolls_collect (h' := h.startBlock (WireClass.mask m).byte) k hlt
    ((collectCur_mask rfl).trans (boundary_starts hn)) (hr.startBlock _)

/-- A data byte is collected as `DATA(b)` says (R159). -/
theorem Receiving.handlerPolls_dataByte {b : Byte} (hb : b ≤ 0x7F#8)
    (hdata : dataByte b (s.during { h with state := .handleBlock, cur := b } app rest) =
      s.during { h' with state := .handleBlock } app' rest)
    (hr' : Receiving { h' with state := .waitForBytes }) :
    handlerPolls (k + 4) (s.during h app (b :: rest)) =
      handlerPolls k (s.during { h' with state := .waitForBytes } app' rest) := by
  obtain ⟨d, hd⟩ := exists_classify_data hb
  obtain rfl : (WireClass.data d).byte = b := hd ▸ byte_classify b
  have hlt : (WireClass.data d).byte.toNat < 0xC0 := Nat.lt_of_le_of_lt hb (by decide)
  exact hr.handlerPolls_collect k hlt ((collectCur_data rfl).trans hdata) hr'

theorem Receiving.storeByte (b : Byte) : Receiving (h.storeByte b) := ⟨hr.initialized, rfl, hr.acc, hr.pend⟩

theorem Receiving.handlerPolls_storeByte {b : Byte} (hb : b ≤ 0x7F#8) (h0 : 0 < h.i.toNat) (h7 : h.i.toNat < 7) :
    handlerPolls (k + 4) (s.during h app (b :: rest)) = handlerPolls k (s.during (h.storeByte b) app rest) := by
  have hne : h.i ≠ 0#3 := fun hz => by simp [hz] at h0
  exact hr.handlerPolls_dataByte (h' := h.storeByte b) k hb (dataByte_stored hne h7) (hr.storeByte b)

theorem Receiving.handlerPolls_endBlock {b : Byte} {r : Raw6} {m : Nat} (hb : b ≤ 0x7F#8) (h7 : h.i = 7#3)
    (hdec : decodeBlock s.params.checksumId { h.blk with d5 := b } = some r)
    (happ : OpenFor s.params.appCap (m + 1) app) :
    handlerPolls (k + 4) (s.during h app (b :: rest)) =
      handlerPolls k (s.during (h.endBlock b) (app.addPending (rawList r)) rest) := by
  obtain ⟨hopen, hl, hroom⟩ := happ
  have hdone := blockDone_room (s := s.during
    { h with state := .handleBlock, cur := b, blk := { h.blk with d5 := b } } app rest) hdec hopen hl
    (show app.contents.length + app.pending.length + 6 ≤ s.params.appCap by omega)
  exact hr.handlerPolls_dataByte (h' := h.endBlock b) k hb ((dataByte_eighth h7).trans hdone)
    ⟨hr.initialized, rfl, hr.acc, hr.pend⟩

end

/-- Bytes inside a block are stored one after the other. -/
theorem handlerPolls_storeBytes {s : State} {app : Buffer} {rest : List Byte} (k : Nat) (l : List Byte) :
    ∀ {h : Handler}, Receiving h → 0 < h.i.toNat → h.i.toNat + l.length ≤ 7 → (∀ b ∈ l, b ≤ 0x7F#8) →
    handlerPolls (k + 4 * l.length) (s.during h app (l ++ rest)) =
      handlerPolls k (s.during (l.foldl Handler.storeByte h) app rest) := by
  induction l with
  | nil => exact fun _ _ _ _ => rfl
  | cons b l ih =>
    intro h hr h0 h7 hl
    obtain ⟨hb, hl⟩ := List.forall_mem_cons.1 hl
    rw [List.length_cons] at h7
    have hidx : (h.storeByte b).i.toNat = h.i.toNat + 1 := by
      show (h.i + 1#3).toNat = _
      rw [BitVec.toNat_add, BitVec.toNat_ofNat]
      omega
    calc handlerPolls (k + 4 * (l.length + 1)) (s.during h app (b :: (l ++ rest)))
      _ = handlerPolls (k + 4 * l.length) (s.during (h.storeByte b) app (l ++ rest)) :=
        hr.handlerPolls_storeByte _ hb h0 (by omega)
      _ = _ := ih (hr.storeByte b) (by omega) (by omega) hl

/-! ## The blocks of a frame -/

/-- The handler's registers after a block. -/
def Handler.takeBlock (h : Handler) (w : WireBlock) : Handler :=
  { h with
    state := .waitForBytes, cur := w.toBlk8.d5, blk := w.toBlk8, i := 0#3, blocks := h.blocks + 1#4 }

/-- The handler waits between blocks, `m` of the frame's `n` to come; `e` is the error recorded last. -/
structure BetweenBlocks (n : BitVec 4) (e : HandlerError) (m : Nat) (h : Handler) : Prop extends Receiving h where
  frameN : h.frameN = n
  left : h.blocks.toNat + m = n.toNat
  index : h.i = 0#3
  lastError : h.lastError = e

section

variable {n : BitVec 4} {e : HandlerError} {m : Nat} {h : Handler}

theorem BetweenBlocks.takeBlock (hb : BetweenBlocks n e (m + 1) h) (w : WireBlock) :
    BetweenBlocks n e m (h.takeBlock w) where
  initialized := hb.initialized
  state := rfl
  acc := hb.acc
  pend := hb.pend
  frameN := hb.frameN
  left := by
    have hleft := hb.left
    have hlt := n.isLt
    show (h.blocks + 1#4).toNat + m = n.toNat
    rw [BitVec.toNat_add, BitVec.toNat_ofNat]
    omega
  index := rfl
  lastError := hb.lastError

theorem BetweenBlocks.ne_frameN (hb : BetweenBlocks n e (m + 1) h) : h.blocks ≠ h.frameN := by
  intro heq
  have hleft := hb.left
  rw [heq, hb.frameN] at hleft
  omega

theorem BetweenBlocks.all_in (hb : BetweenBlocks n e 0 h) : h.blocks = h.frameN := by
  rw [hb.frameN]
  exact BitVec.eq_of_toNat_eq hb.left

theorem BetweenBlocks.foldl_takeBlock (ws : List WireBlock) :
    ∀ {h : Handler}, BetweenBlocks n e ws.length h → BetweenBlocks n e 0 (ws.foldl Handler.takeBlock h) := by
  induction ws with
  | nil => exact fun hb => hb
  | cons w ws ih => exact fun hb => ih (hb.takeBlock w)

end

theorem OpenFor.addPending {cap m : Nat} {app : Buffer} (ha : OpenFor cap (m + 1) app) (r : Raw6) :
    OpenFor cap m (app.addPending (rawList r)) where
  opened := ha.opened
  unlocked := ha.unlocked
  room := by
    have hroom := ha.room
    show app.contents.length + (app.pending ++ rawList r).length + 6 * m ≤ cap
    rw [List.length_append, show (rawList r).length = 6 from rfl]
    omega

/-- The bytes of a block between its first and its last: the checksum and five data bytes (R81). -/
def innerBytes (w : WireBlock) : List Byte :=
  [w.c, 0#1 ++ w.d0, 0#1 ++ w.d1, 0#1 ++ w.d2, 0#1 ++ w.d3, 0#1 ++ w.d4]

theorem le_of_dataField (d : BitVec 7) : 0#1 ++ d ≤ (0x7F#8 : Byte) := by
  revert d
  decide

theorem innerBytes_le {w : WireBlock} (hc : w.c ≤ 0x7F#8) : ∀ b ∈ innerBytes w, b ≤ 0x7F#8 := by
  simp [innerBytes, hc, le_of_dataField]

section

variable {s : State} {n : BitVec 4} {e : HandlerError} {rest : List Byte} (k : Nat)

/-- The thirty-two polls that receive a good block. -/
theorem BetweenBlocks.handlerPolls_block {m : Nat} {h : Handler} {app : Buffer} {w : WireBlock} {r : Raw6}
    (hb : BetweenBlocks n e (m + 1) h) (hc : w.c ≤ 0x7F#8)
    (hdec : decodeBlock s.params.checksumId w.toBlk8 = some r) (happ : OpenFor s.params.appCap (m + 1) app) :
    handlerPolls (k + 32) (s.during h app (w.toBlk8.toList ++ rest)) =
      handlerPolls k (s.during (h.takeBlock w) (app.addPending (rawList r)) rest) := by
  have hr := hb.toReceiving
  have hstart := hr.startBlock (WireClass.mask w.m).byte
  have hstored := List.foldlRecOn (motive := Receiving) (innerBytes w) Handler.storeByte hstart fun _ hr b _ =>
    hr.storeByte b
  calc handlerPolls (k + 32) (s.during h app (w.toBlk8.toList ++ rest))
    _ = handlerPolls (k + 4 + 4 * 6) (s.during (h.startBlock (WireClass.mask w.m).byte) app
          (innerBytes w ++ (0#1 ++ w.d5) :: rest)) := hr.handlerPolls_startBlock _ w.m hb.ne_frameN
    _ = handlerPolls (k + 4) (s.during ((innerBytes w).foldl Handler.storeByte
          (h.startBlock (WireClass.mask w.m).byte)) app ((0#1 ++ w.d5) :: rest)) :=
      handlerPolls_storeBytes _ (innerBytes w) hstart Nat.one_pos (Nat.le_refl 7) (innerBytes_le hc)
    _ = handlerPolls k (s.during (h.takeBlock w) (app.addPending (rawList r)) rest) :=
      hstored.handlerPolls_endBlock k (le_of_dataField w.d5) rfl hdec happ

/-- The blocks decode, each to its six bytes (R97). -/
abbrev DecodeTo (k : Nat) (ws : List WireBlock) (raws : List Raw6) : Prop :=
  List.Forall₂ (fun w r => decodeBlock k w.toBlk8 = some r) ws raws

theorem handlerPolls_blocks {ws : List WireBlock} {raws : List Raw6}
    (hdec : DecodeTo s.params.checksumId ws raws) :
    ∀ {h : Handler} {app : Buffer}, BetweenBlocks n e ws.length h → (∀ w ∈ ws, w.c ≤ 0x7F#8) →
    OpenFor s.params.appCap ws.length app →
    handlerPolls (k + 32 * ws.length) (s.during h app ((ws.map WireBlock.toBlk8).flatMap Blk8.toList ++ rest)) =
      handlerPolls k (s.during (ws.foldl Handler.takeBlock h) (app.addPending (raws.flatMap rawList)) rest) := by
  induction hdec with
  | nil =>
    intro h app _ _ _
    simp [Buffer.addPending]
  | @cons w r ws raws hw _ ih =>
    intro h app hb hc happ
    obtain ⟨hcw, hc⟩ := List.forall_mem_cons.1 hc
    have hpending : (app.addPending (rawList r)).addPending (raws.flatMap rawList) =
        app.addPending ((r :: raws).flatMap rawList) := by
      simp only [Buffer.addPending, List.flatMap_cons, List.append_assoc]
    rw [List.map_cons, List.flatMap_cons, List.append_assoc, ← hpending]
    exact (hb.handlerPolls_block (k + 32 * ws.length) hcw hw happ).trans (ih (hb.takeBlock w) hc (happ.addPending r))

end

/-! ## A frame -/

/-- The handler's registers once the first start code of a frame of `n` blocks is accepted (R153). -/
def Handler.preStart (h : Handler) (n : BitVec 4) : Handler :=
  { h with state := .waitForBytes, acc := accPrestart, frameN := n, blocks := 0#4, i := 0#3 }

/-- The handler's registers once the second is accepted too (R154). -/
def Handler.startFrame (h : Handler) (n : BitVec 4) : Handler :=
  { h with state := .waitForBytes, acc := accStarted, frameN := n, blocks := 0#4, i := 0#3, rwOpen := true }

section

variable {s : State} {n : BitVec 4} {h : Handler} {app : Buffer} {rest : List Byte} (k : Nat)

theorem handlerPolls_startCodes (hi : h.initialized = true) (hs : h.state = .waitForBytes) (ha : h.acc = accNone)
    (hp : h.pend = .none) (hn : n ≠ 0#4) :
    handlerPolls (k + 6) (s.during h app (controlByte 0xC#4 n :: controlByte 0xD#4 n :: rest)) =
      handlerPolls k (s.during (h.startFrame n) app.openRW rest) := by
  have hsc1 := takeSc1_inPlace (c := n)
    (s := s.during { h with state := .getByte } app (controlByte 0xC#4 n :: controlByte 0xD#4 n :: rest)) rfl ha
    (acceptSc1_count hn)
  have hsc2 := takeSc2_inPlace (c := n)
    (s := s.during { h.preStart n with state := .getByte } app (controlByte 0xD#4 n :: rest)) rfl rfl
    (acceptSc2_match rfl)
  calc handlerPolls (k + 6) (s.during h app (controlByte 0xC#4 n :: controlByte 0xD#4 n :: rest))
    _ = handlerPolls (k + 3) (s.during (h.preStart n) app (controlByte 0xD#4 n :: rest)) :=
      handlerPolls_control (c := .sc1 n) (h' := h.preStart n) (a := accPrestart) _ hi hs (congrArg State.ok hsc1) hi hp
        rfl (by decide)
    _ = handlerPolls k (s.during (h.startFrame n) app.openRW rest) :=
      handlerPolls_control (c := .sc2 n) (h' := h.startFrame n) (a := accStarted) _ hi rfl (congrArg State.ok hsc2)
        hi hp rfl (by decide)

theorem BetweenBlocks.handlerPolls_endCodes {e : HandlerError} (hb : BetweenBlocks n e 0 h) :
    handlerPolls (k + 6) (s.during h app (controlByte 0xE#4 n :: controlByte 0xF#4 n :: rest)) =
      handlerPolls k (s.during { h with acc := accFinished } app rest).commitFrame.ok := by
  have hall := hb.all_in
  obtain ⟨⟨hi, hs, ha, hp⟩, hn, -, hidx, -⟩ := hb
  have hec1 := takeEc1_inPlace (c := n)
    (s := s.during { h with state := .getByte } app (controlByte 0xE#4 n :: controlByte 0xF#4 n :: rest)) rfl ha
    (acceptEc1_match hn.symm hall hidx)
  have hec2 := takeEc2_inPlace (c := n)
    (s := s.during { h with state := .getByte, acc := accPrefinish } app (controlByte 0xF#4 n :: rest)) rfl rfl
    (acceptEc2_match hn.symm)
  calc handlerPolls (k + 6) (s.during h app (controlByte 0xE#4 n :: controlByte 0xF#4 n :: rest))
    _ = handlerPolls (k + 3) (s.during { h with state := .waitForBytes, acc := accPrefinish } app
          (controlByte 0xF#4 n :: rest)) :=
      handlerPolls_control (c := .ec1 n) (a := accPrefinish) _ hi hs (congrArg State.ok hec1) hi hp rfl
        (by decide)
    _ = handlerPolls (k + 1) (s.during { h with state := .checkFinal, acc := accFinished } app rest) :=
      handlerPolls_take (c := .ec2 n) _ hi rfl (congrArg State.ok hec2)
    _ = handlerPolls k (s.during { h with acc := accFinished } app rest).commitFrame.ok :=
      handlerPolls_succ k hi
        ((handlerTransition_checkFinal rfl).trans (pollCheckFinal_commit ⟨hp, rfl, hall, hidx⟩)) rfl

end

/-- The handler waits in `Idle`, registered, with nothing seen of a frame and no error pending. -/
structure HandlerReady (s : State) : Prop where
  initialized : s.handler.initialized = true
  state : s.handler.state = .idle
  regApp : s.handler.regApp = true
  regLsn : s.handler.regLsn = true
  acc : s.handler.acc = accNone
  pend : s.handler.pend = .none

/-- The state after a good frame: its blocks' bytes are committed. -/
def State.received (s : State) (n : BitVec 4) (ws : List WireBlock) (raws : List Raw6) (rest : List Byte) : State :=
  (s.during { ws.foldl Handler.takeBlock (s.handler.startFrame n) with acc := accFinished }
    (s.mem.app.openRW.addPending (raws.flatMap rawList)) rest).commitFrame.ok

/-- The registers after the start codes are those before the first block. -/
theorem HandlerReady.betweenBlocks {s : State} (hr : HandlerReady s) (n : BitVec 4) :
    BetweenBlocks n s.handler.lastError n.toNat (s.handler.startFrame n) where
  initialized := hr.initialized
  state := rfl
  acc := rfl
  pend := hr.pend
  frameN := rfl
  left := Nat.zero_add _
  index := rfl
  lastError := rfl

theorem HandlerReady.handlerPolls_frame {s : State} {n : BitVec 4} {ws : List WireBlock} {raws : List Raw6}
    {rest : List Byte} (hr : HandlerReady s) (hn : n ≠ 0#4) (hlen : ws.length = n.toNat)
    (hdec : DecodeTo s.params.checksumId ws raws)
    (hc : ∀ w ∈ ws, w.c ≤ 0x7F#8) (hin : s.mem.inb.contents = frameBytes n (ws.map WireBlock.toBlk8) ++ rest)
    (happ : OpenFor s.params.appCap ws.length s.mem.app.openRW) :
    handlerPolls (13 + 32 * ws.length) s = .next (s.received n ws raws rest) := by
  have hblocks : BetweenBlocks n s.handler.lastError ws.length (s.handler.startFrame n) := hlen ▸ hr.betweenBlocks n
  have hend := BetweenBlocks.foldl_takeBlock ws hblocks
  have hbytes : frameBytes n (ws.map WireBlock.toBlk8) ++ rest = controlByte 0xC#4 n :: controlByte 0xD#4 n ::
      ((ws.map WireBlock.toBlk8).flatMap Blk8.toList ++ controlByte 0xE#4 n :: controlByte 0xF#4 n :: rest) := by
    simp [frameBytes]
  have hidle : (s.gotoH .waitForBytes).ok =
      s.during { s.handler with state := .waitForBytes } s.mem.app s.mem.inb.contents := rfl
  rw [show 13 + 32 * ws.length = 6 + 32 * ws.length + 6 + 1 by omega,
    handlerPolls_succ _ hr.initialized (handlerTransition_registered hr.state hr.regApp hr.regLsn) hidle, hin, hbytes]
  refine (handlerPolls_startCodes (h := { s.handler with state := .waitForBytes }) _ hr.initialized rfl hr.acc hr.pend
    hn).trans ?_
  refine (handlerPolls_blocks 6 hdec hblocks hc happ).trans ?_
  exact hend.handlerPolls_endCodes 0

/-- Settles O53, by the run of `HandlerReady.handlerPolls_frame`: the invariant says that nothing of an earlier frame is
left in `Idle`. -/
theorem handlerReceivesAGoodFrame : Obligations.HandlerReceivesAGoodFrame := by
  intro s n ws raws rest hi hs hrapp hrlsn hinv hpend hl hn hlen hdec hc hin hroom
  have hp : s.handler.pend = .none := hinv.no_pend (by rw [hs]; decide) (by rw [hs]; decide)
  have hready : HandlerReady s := ⟨hi, hs, hrapp, hrlsn, hinv.idle_acc hs, hp⟩
  have hrw : s.mem.app.rw = false := hinv.rw_eq.symm.trans (hinv.closed (.inl hs))
  have hgood : DecodeTo s.params.checksumId ws raws := by
    rwa [← List.forall₂_eq_eq_eq, List.forall₂_map_left_iff, List.forall₂_map_right_iff] at hdec
  have happ : OpenFor s.params.appCap ws.length s.mem.app.openRW := ⟨rfl, hl, hlen ▸ hroom⟩
  have hend := BetweenBlocks.foldl_takeBlock ws (hlen ▸ hready.betweenBlocks n)
  rw [← hlen]
  refine ⟨_, hready.handlerPolls_frame hn hlen hgood hc hin happ, rfl, rfl, ?app, rfl, rfl, hend.lastError, rfl, rfl,
    rfl, rfl, rfl⟩
  case app =>
    show ({ s.mem.app with
      contents := s.mem.app.contents ++ raws.flatMap rawList, pending := [], rw := false } : Buffer) = _
    rw [← hpend, ← hrw]

end Sys2Proof.Machine

/-!
SUPPORT. The family of 43_environment.md: the commands of the transport and of the consumer (R166 to R170). What a `Get`
answers and leaves is said once for each of its two cases (R57), and serves both buffers.
-/

namespace Sys2Proof.Machine

/-! ## A `Get`, by its two cases -/

section

variable {b : Buffer}

theorem getWord_nil (h : b.contents = []) : getWord b = 0x100#32 := by
  rw [getWord, Buffer.get, h]

theorem getWord_cons {v : Byte} {rest : List Byte} (h : b.contents = v :: rest) : getWord b = v.setWidth 32 := by
  rw [getWord, Buffer.get, h]

theorem afterGet_nil (h : b.contents = []) : afterGet b = b := by
  rw [afterGet, Buffer.get, h]

theorem afterGet_cons {v : Byte} {rest : List Byte} (h : b.contents = v :: rest) :
    afterGet b = { b with contents := rest } := by
  rw [afterGet_eq, h, List.drop_one, List.tail_cons]

end

/-! ## The two commands that take a byte -/

/-- R167: neither a guard nor a hold (R166, decision D28). -/
theorem exec_eOutget (s : State) :
    exec .eOutget s = .next ((s.setOut (afterGet s.mem.out)).respond .ok (getWord s.mem.out)) := rfl

/-- R168: neither a guard nor a hold (R166, decision D28). -/
theorem exec_eAppget (s : State) :
    exec .eAppget s = .next ((s.setApp (afterGet s.mem.app)).respond .ok (getWord s.mem.app)) := rfl

/-- Settles O54: a taking command by the two cases of its `Get`; a clearing command has one case only. -/
theorem environmentTakesBytesAndClearsFlags : Obligations.EnvironmentTakesBytesAndClearsFlags := by
  intro s
  refine ⟨fun h => ?outEmpty, fun v rest h => ?outByte, fun h => ?appEmpty, fun v rest h => ?appByte, rfl, rfl⟩
  case outEmpty =>
    rw [exec_eOutget, afterGet_nil h, getWord_nil h]
    rfl
  case outByte =>
    rw [exec_eOutget, afterGet_cons h, getWord_cons h]
    rfl
  case appEmpty =>
    rw [exec_eAppget, afterGet_nil h, getWord_nil h]
    rfl
  case appByte =>
    rw [exec_eAppget, afterGet_cons h, getWord_cons h]
    rfl

end Sys2Proof.Machine

/-!
SUPPORT. The family of 60_exceptions.md: the two units are independent (R184, R65, R66). Both statements follow from one
commuting law per side. `rest.withWriter s` is `s` with everything but the writer's side, the parameters and the answer
exchanged for that of `rest`; an instruction of the writer's side does the same before and after this exchange
(`exec_withWriter`). With nothing exchanged, the law says that the instruction leaves everything else as it is; with
everything else exchanged, that it reads nothing of it. `rest.withHandler s` is the same for the handler's side.
-/

namespace Sys2Proof.Machine

/-! ## Exchanging what an instruction's side leaves out -/

/-- `rest` with the writer's side, the parameters and the answer of `s`. -/
def State.withWriter (rest s : State) : State :=
  { rest with
    params := s.params, writer := s.writer, mem := { rest.mem with src := s.mem.src, out := s.mem.out }
    sendLsn := s.sendLsn, writerHistory := s.writerHistory, answer := s.answer }

/-- `rest` with the handler's side, the parameters and the answer of `s`. -/
def State.withHandler (rest s : State) : State :=
  { rest with
    params := s.params, handler := s.handler, mem := { rest.mem with inb := s.mem.inb, app := s.mem.app }
    appLsn := s.appLsn, handlerHistory := s.handlerHistory, answer := s.answer }

section

variable (rest s : State)

@[simp] theorem State.withWriter_params : (rest.withWriter s).params = s.params := rfl
@[simp] theorem State.withWriter_writer : (rest.withWriter s).writer = s.writer := rfl
@[simp] theorem State.withWriter_mem_src : (rest.withWriter s).mem.src = s.mem.src := rfl
@[simp] theorem State.withWriter_mem_out : (rest.withWriter s).mem.out = s.mem.out := rfl
@[simp] theorem State.withHandler_params : (rest.withHandler s).params = s.params := rfl
@[simp] theorem State.withHandler_handler : (rest.withHandler s).handler = s.handler := rfl
@[simp] theorem State.withHandler_mem_inb : (rest.withHandler s).mem.inb = s.mem.inb := rfl
@[simp] theorem State.withHandler_mem_app : (rest.withHandler s).mem.app = s.mem.app := rfl

theorem State.withWriter_self : s.withWriter s = s := rfl

theorem State.withHandler_self : s.withHandler s = s := rfl

theorem agreeOnHandler_withWriter : AgreeOnHandler (rest.withWriter s) rest := ⟨rfl, rfl, rfl, rfl, rfl⟩

theorem agreeOnWriter_withHandler : AgreeOnWriter (rest.withHandler s) rest := ⟨rfl, rfl, rfl, rfl, rfl⟩

theorem agreeOnWriter_withWriter : AgreeOnWriter s (rest.withWriter s) := ⟨rfl, rfl, rfl, rfl, rfl⟩

theorem agreeOnHandler_withHandler : AgreeOnHandler s (rest.withHandler s) := ⟨rfl, rfl, rfl, rfl, rfl⟩

end

theorem State.withWriter_of_agree {s₁ s₂ : State} (h : AgreeOnWriter s₁ s₂) (hp : s₁.params = s₂.params)
    (ha : s₁.answer = s₂.answer) : s₂.withWriter s₁ = s₂ := by
  obtain ⟨hw, hsrc, hout, hlsn, hhist⟩ := h
  rw [State.withWriter, hp, hw, hsrc, hout, hlsn, hhist, ha]

theorem State.withHandler_of_agree {s₁ s₂ : State} (h : AgreeOnHandler s₁ s₂) (hp : s₁.params = s₂.params)
    (ha : s₁.answer = s₂.answer) : s₂.withHandler s₁ = s₂ := by
  obtain ⟨hh, hin, happ, hlsn, hhist⟩ := h
  rw [State.withHandler, hp, hh, hin, happ, hlsn, hhist, ha]

/-- The outcome with `g` applied to the state it goes on in. -/
def mapNext (g : State → State) : Host.Outcome State Fault Refusal → Host.Outcome State Fault Refusal
  | .next t => .next (g t)
  | .fault f => .fault f
  | .refused r => .refused r

/-- A choice commutes with `f` if both its branches do and its condition is the same before and after `f`. -/
theorem ite_eq_apply {α β : Type} {f : α → β} {c : Prop} [Decidable c] {a b : α} {a' b' : β} (ha : a' = f a)
    (hb : b' = f b) : (if c then a' else b') = f (if c then a else b) := by
  rw [ha, hb, apply_ite f]

/-! ## The writer's side -/

section

variable (rest s : State)

theorem pollIdleW_withWriter : pollIdleW (rest.withWriter s) = rest.withWriter (pollIdleW s) :=
  ite_eq_apply rfl rfl

theorem pollWaitForTrigger_withWriter :
    pollWaitForTrigger (rest.withWriter s) = rest.withWriter (pollWaitForTrigger s) :=
  ite_eq_apply rfl rfl

theorem pollComputeBlockCount_withWriter :
    pollComputeBlockCount (rest.withWriter s) = rest.withWriter (pollComputeBlockCount s) :=
  ite_eq_apply rfl (ite_eq_apply rfl rfl)

theorem pollEmitControl_withWriter (code : BitVec 4) (after : WState) :
    pollEmitControl code after (rest.withWriter s) = rest.withWriter (pollEmitControl code after s) := by
  simp only [pollEmitControl, State.withWriter_params, State.withWriter_writer, State.withWriter_mem_out]
  cases s.mem.out.put s.params.outCap (controlByte code s.writer.n) <;> rfl

theorem emitBlock_withWriter : emitBlock (rest.withWriter s) = rest.withWriter (emitBlock s) := by
  simp only [emitBlock, State.withWriter_params, State.withWriter_writer, State.withWriter_mem_out]
  cases (Buffer.putAll s.params.outCap s.mem.out (s.writer.enc.toList.drop s.writer.byteIdx.toNat)).2 <;> rfl

theorem pollWaitAck_withWriter : pollWaitAck (rest.withWriter s) = rest.withWriter (pollWaitAck s) :=
  ite_eq_apply rfl rfl

theorem writerTransition_withWriter :
    writerTransition (rest.withWriter s) = rest.withWriter (writerTransition s) := by
  simp only [writerTransition, State.withWriter_writer]
  cases s.writer.state with
  | idle => exact pollIdleW_withWriter rest s
  | waitForTrigger => exact pollWaitForTrigger_withWriter rest s
  | lockBuffer => rfl
  | computeBlockCount => exact pollComputeBlockCount_withWriter rest s
  | emitStart1 => exact pollEmitControl_withWriter rest s _ _
  | emitStart2 => exact pollEmitControl_withWriter rest s _ _
  | initBlock => rfl
  | fillBlock => rfl
  | emitBlockBytes => exact emitBlock_withWriter rest s
  | unlockBuffer => rfl
  | emitEnd1 => exact pollEmitControl_withWriter rest s _ _
  | emitEnd2 => exact pollEmitControl_withWriter rest s _ _
  | signalListener => rfl
  | waitAck => exact pollWaitAck_withWriter rest s
  | reset => rfl
  | processError => rfl

theorem writerPort_withWriter (whileBusy : Bool) {k k' : Host.Outcome State Fault Refusal}
    (hk : k' = mapNext rest.withWriter k) :
    writerPort whileBusy (rest.withWriter s) k' = mapNext rest.withWriter (writerPort whileBusy s k) :=
  ite_eq_apply rfl (ite_eq_apply rfl hk)

theorem execWWrite_withWriter (b : Byte) :
    execWWrite b (rest.withWriter s) = mapNext rest.withWriter (execWWrite b s) := by
  refine writerPort_withWriter rest s false (ite_eq_apply rfl ?_)
  simp only [State.withWriter_params, State.withWriter_mem_src]
  cases s.mem.src.put s.params.srcCap b <;> rfl

theorem execBlock_withWriter (b : WireBlock) :
    execBlock b (rest.withWriter s) = mapNext rest.withWriter (execBlock b s) :=
  ite_eq_apply rfl (ite_eq_apply (congrArg Host.Outcome.next (emitBlock_withWriter rest s)) rfl)

theorem execFrame_withWriter (n : BitVec 4) (blocks : List WireBlock) :
    execFrame n blocks (rest.withWriter s) = mapNext rest.withWriter (execFrame n blocks s) := by
  refine ite_eq_apply rfl (ite_eq_apply ?_ rfl)
  simp only [State.withWriter_params, State.withWriter_mem_out]
  obtain ⟨out, left⟩ := Buffer.putAll s.params.outCap s.mem.out (frameBytes n (blocks.map WireBlock.toBlk8))
  cases left <;> rfl

end

/-- Instructions of the writer's side commute with exchanging everything else. -/
theorem exec_withWriter {i : Instr} (hi : writerSide i) (rest s : State) :
    exec i (rest.withWriter s) = mapNext rest.withWriter (exec i s) := by
  cases i with
  | wInit => exact ite_eq_apply rfl rfl
  | wPoll => exact writerPort_withWriter rest s _ (by rw [writerTransition_withWriter]; rfl)
  | wOpen => exact writerPort_withWriter rest s _ (ite_eq_apply rfl rfl)
  | wWrite b => exact execWWrite_withWriter rest s b
  | wClose => exact writerPort_withWriter rest s _ (ite_eq_apply rfl rfl)
  | wTrigger => exact writerPort_withWriter rest s _ (ite_eq_apply rfl rfl)
  | wQcount => exact writerPort_withWriter rest s _ rfl
  | wRegout => exact writerPort_withWriter rest s _ (ite_eq_apply rfl rfl)
  | wReglsn => exact writerPort_withWriter rest s _ (ite_eq_apply rfl rfl)
  | wStatus => exact writerPort_withWriter rest s _ rfl
  | wSpin => exact ite_eq_apply (congrArg Host.Outcome.next (emitBlock_withWriter rest s)) rfl
  | codecEncode raw => exact ite_eq_apply rfl rfl
  | frame n blocks => exact execFrame_withWriter rest s n blocks
  | block b => exact execBlock_withWriter rest s b
  | _ => exact False.elim hi

/-! ## The handler's side -/

section

variable (rest s : State)

theorem repeatedCode_withHandler (k : Nat) (old : BitVec 4) :
    repeatedCode k old (rest.withHandler s) = rest.withHandler (repeatedCode k old s) :=
  ite_eq_apply rfl (ite_eq_apply rfl rfl)

theorem acceptSc1_withHandler (c : BitVec 4) :
    acceptSc1 c (rest.withHandler s) = rest.withHandler (acceptSc1 c s) :=
  ite_eq_apply rfl rfl

theorem acceptSc2_withHandler (c : BitVec 4) :
    acceptSc2 c (rest.withHandler s) = rest.withHandler (acceptSc2 c s) :=
  ite_eq_apply rfl rfl

theorem acceptEc1_withHandler (c : BitVec 4) :
    acceptEc1 c (rest.withHandler s) = rest.withHandler (acceptEc1 c s) :=
  ite_eq_apply rfl (ite_eq_apply rfl rfl)

theorem acceptEc2_withHandler (c : BitVec 4) :
    acceptEc2 c (rest.withHandler s) = rest.withHandler (acceptEc2 c s) :=
  ite_eq_apply rfl rfl

theorem ctrl_withHandler (k : Nat) {accept : State → State}
    (ha : ∀ s, accept (rest.withHandler s) = rest.withHandler (accept s)) :
    ctrl k accept (rest.withHandler s) = rest.withHandler (ctrl k accept s) :=
  ite_eq_apply rfl (ite_eq_apply (repeatedCode_withHandler rest (s.setHandler _) k _) (ha (s.setHandler _)))

theorem takeControl_withHandler (k : Nat) {accept : State → State}
    (ha : ∀ s, accept (rest.withHandler s) = rest.withHandler (accept s)) :
    takeControl k accept (rest.withHandler s) = rest.withHandler (takeControl k accept s) :=
  congrArg (State.gotoH · .checkFinal) (ctrl_withHandler rest s.takeIn k ha)

theorem takePayload_withHandler (b : Byte) :
    takePayload b (rest.withHandler s) = rest.withHandler (takePayload b s) :=
  ite_eq_apply rfl (ite_eq_apply rfl rfl)

theorem takeByte_withHandler (c : WireClass) :
    takeByte c (rest.withHandler s) = rest.withHandler (takeByte c s) := by
  cases c with
  | data d => exact takePayload_withHandler rest s _
  | mask m => exact takePayload_withHandler rest s _
  | sc1 n => exact takeControl_withHandler rest s 0 (acceptSc1_withHandler rest · n)
  | sc2 n => exact takeControl_withHandler rest s 1 (acceptSc2_withHandler rest · n)
  | ec1 n => exact takeControl_withHandler rest s 2 (acceptEc1_withHandler rest · n)
  | ec2 n => exact takeControl_withHandler rest s 3 (acceptEc2_withHandler rest · n)

theorem pollGetByte_withHandler : pollGetByte (rest.withHandler s) = rest.withHandler (pollGetByte s) := by
  cases h : s.mem.inb.contents with
  | nil => rw [pollGetByte_nil h, pollGetByte_nil (s := rest.withHandler s) h]
  | cons b bs =>
    rw [pollGetByte_cons h, pollGetByte_cons (s := rest.withHandler s) h]
    exact takeByte_withHandler rest s _

theorem blockDone_withHandler : blockDone (rest.withHandler s) = rest.withHandler (blockDone s) := by
  simp only [blockDone, State.setHandler_params, State.setHandler_handler, State.setHandler_mem_app,
    State.withHandler_params, State.withHandler_handler, State.withHandler_mem_app]
  cases decodeBlock s.params.checksumId s.handler.blk with
  | none => rfl
  | some r =>
    dsimp only
    obtain ⟨app, left⟩ := Buffer.putAll s.params.appCap s.mem.app (rawList r)
    cases left <;> rfl

theorem dataByte_withHandler (b : Byte) :
    dataByte b (rest.withHandler s) = rest.withHandler (dataByte b s) :=
  ite_eq_apply rfl (ite_eq_apply (blockDone_withHandler rest (s.setHandler _)) rfl)

theorem collectCur_withHandler : collectCur (rest.withHandler s) = rest.withHandler (collectCur s) :=
  ite_eq_apply (ite_eq_apply rfl rfl) (dataByte_withHandler rest s _)

theorem pollHandleBlock_withHandler :
    pollHandleBlock (rest.withHandler s) = rest.withHandler (pollHandleBlock s) := by
  rw [pollHandleBlock_eq, pollHandleBlock_eq, collectCur_withHandler]
  exact ite_eq_apply rfl rfl

theorem pollIdleH_withHandler : pollIdleH (rest.withHandler s) = rest.withHandler (pollIdleH s) :=
  ite_eq_apply rfl rfl

theorem pollWaitForBytes_withHandler :
    pollWaitForBytes (rest.withHandler s) = rest.withHandler (pollWaitForBytes s) :=
  ite_eq_apply rfl rfl

theorem pollCheckFinal_withHandler :
    pollCheckFinal (rest.withHandler s) = rest.withHandler (pollCheckFinal s) :=
  ite_eq_apply rfl (ite_eq_apply rfl (ite_eq_apply (ite_eq_apply rfl rfl) rfl))

theorem pollWaitProcessed_withHandler :
    pollWaitProcessed (rest.withHandler s) = rest.withHandler (pollWaitProcessed s) :=
  ite_eq_apply rfl rfl

theorem pollProcessErrorH_withHandler :
    pollProcessErrorH (rest.withHandler s) = rest.withHandler (pollProcessErrorH s) := by
  rw [pollProcessErrorH, pollProcessErrorH, State.leaveErrorH_eq, State.leaveErrorH_eq]
  rfl

theorem handlerTransition_withHandler :
    handlerTransition (rest.withHandler s) = rest.withHandler (handlerTransition s) := by
  simp only [handlerTransition, State.withHandler_handler]
  cases s.handler.state with
  | idle => exact pollIdleH_withHandler rest s
  | waitForBytes => exact pollWaitForBytes_withHandler rest s
  | getByte => exact pollGetByte_withHandler rest s
  | handleBlock => exact pollHandleBlock_withHandler rest s
  | checkFinal => exact pollCheckFinal_withHandler rest s
  | waitProcessed => exact pollWaitProcessed_withHandler rest s
  | completeReset => rfl
  | processError => exact pollProcessErrorH_withHandler rest s

theorem handlerPort_withHandler {k k' : Host.Outcome State Fault Refusal} (hk : k' = mapNext rest.withHandler k) :
    handlerPort (rest.withHandler s) k' = mapNext rest.withHandler (handlerPort s k) :=
  ite_eq_apply rfl hk

theorem execHSubmit_withHandler (b : Byte) :
    execHSubmit b (rest.withHandler s) = mapNext rest.withHandler (execHSubmit b s) := by
  refine handlerPort_withHandler rest s ?_
  simp only [State.withHandler_params, State.withHandler_mem_inb]
  cases s.mem.inb.put s.params.inCap b <;> rfl

theorem takenFromIn_withHandler (c : WireClass) :
    takenFromIn c.byte (takeByte c) (rest.withHandler s) =
      mapNext rest.withHandler (takenFromIn c.byte (takeByte c) s) :=
  ite_eq_apply rfl (ite_eq_apply (congrArg Host.Outcome.next (takeByte_withHandler rest s c)) rfl)

theorem takenOrCollected_withHandler (c : WireClass) :
    takenOrCollected c.byte (takeByte c) (rest.withHandler s) =
      mapNext rest.withHandler (takenOrCollected c.byte (takeByte c) s) :=
  ite_eq_apply (congrArg Host.Outcome.next (pollHandleBlock_withHandler rest s)) (takenFromIn_withHandler rest s c)

end

/-- Instructions of the handler's side commute with exchanging everything else. -/
theorem exec_withHandler {i : Instr} (hi : handlerSide i) (rest s : State) :
    exec i (rest.withHandler s) = mapNext rest.withHandler (exec i s) := by
  cases i with
  | hInit => rfl
  | hPoll => exact handlerPort_withHandler rest s (by rw [handlerTransition_withHandler]; rfl)
  | hSubmit b => exact execHSubmit_withHandler rest s b
  | hRegapp => exact handlerPort_withHandler rest s (ite_eq_apply rfl rfl)
  | hReglsn => exact handlerPort_withHandler rest s (ite_eq_apply rfl rfl)
  | hStatus => exact handlerPort_withHandler rest s rfl
  | codecDecode blk => rfl
  | wireData d => exact takenOrCollected_withHandler rest s (.data d)
  | wireMask m => exact takenOrCollected_withHandler rest s (.mask m)
  | wireSc1 n => exact takenFromIn_withHandler rest s (.sc1 n)
  | wireSc2 n => exact takenFromIn_withHandler rest s (.sc2 n)
  | wireEc1 n => exact takenFromIn_withHandler rest s (.ec1 n)
  | wireEc2 n => exact takenFromIn_withHandler rest s (.ec2 n)
  | _ => exact False.elim hi

/-! ## Independence (R184) -/

section

variable {g : State → State} {i : Instr} {s s' : State}

/-- From a state in which `g` finds nothing to exchange, an instruction that commutes with `g` leads to another. -/
theorem eq_of_exec_comm {t : State} (hcomm : exec i (g s) = mapNext g (exec i s)) (hs : g s = s)
    (h : exec i s = .next t) : t = g t := by
  rw [hs, h] at hcomm
  exact Host.Outcome.next.inj hcomm

theorem exec_next_of_comm {t : State} (hcomm : exec i s' = mapNext g (exec i s)) (h : exec i s = .next t) :
    exec i s' = .next (g t) := by
  rw [hcomm, h]
  rfl

theorem exec_refused_of_comm {r : Refusal} (hcomm : exec i s' = mapNext g (exec i s)) (h : exec i s = .refused r) :
    exec i s' = .refused r := by
  rw [hcomm, h]
  rfl

end

/-- Settles O57: the commuting law of each side, with nothing exchanged (`State.withWriter_self`,
`State.withHandler_self`). -/
theorem writerAndHandlerAreIndependent : Obligations.WriterAndHandlerAreIndependent := by
  intro s t i h
  refine ⟨fun hi => ?writer, fun hi => ?handler⟩
  case writer =>
    rw [eq_of_exec_comm (exec_withWriter hi s s) s.withWriter_self h]
    exact agreeOnHandler_withWriter s t
  case handler =>
    rw [eq_of_exec_comm (exec_withHandler hi s s) s.withHandler_self h]
    exact agreeOnWriter_withHandler s t

/-- Settles O58: two states that agree on a side differ by an exchange of everything else (`State.withWriter_of_agree`,
`State.withHandler_of_agree`), with which the side's instructions commute. -/
theorem neitherUnitReadsTheOther : Obligations.NeitherUnitReadsTheOther := by
  intro s₁ s₂ i hp ha
  refine ⟨fun hi hagree => ?writer, fun hi hagree => ?handler⟩
  case writer =>
    have hcomm := exec_withWriter hi s₂ s₁
    rw [State.withWriter_of_agree hagree hp ha] at hcomm
    exact ⟨fun t₁ h => ⟨_, exec_next_of_comm hcomm h, agreeOnWriter_withWriter s₂ t₁, rfl⟩,
      fun _ => exec_refused_of_comm hcomm⟩
  case handler =>
    have hcomm := exec_withHandler hi s₂ s₁
    rw [State.withHandler_of_agree hagree hp ha] at hcomm
    exact ⟨fun t₁ h => ⟨_, exec_next_of_comm hcomm h, agreeOnHandler_withHandler s₂ t₁, rfl⟩,
      fun _ => exec_refused_of_comm hcomm⟩

end Sys2Proof.Machine

/-!
SUPPORT. The family of 70_reset_and_hazards.md: the launch state (R196), the guard of a unit before its `INIT` (R192) and
the two `INIT` commands (R193, R194). `W.INIT` and `H.INIT` do not stand behind their port's guards: the first tests
`W.busy` itself, the second tests nothing.
-/

namespace Sys2Proof.Machine

/-! ## The launch state -/

/-- Settles O8: each bit, buffer and flag as `State.reset` gives it; a buffer is `Buffer.empty`. -/
theorem launchStateIsPowerOn : Obligations.LaunchStateIsPowerOn :=
  ⟨rfl, rfl, rfl, rfl, rfl, rfl, rfl, rfl, rfl, rfl, rfl, rfl⟩

/-! ## The ports before `INIT` -/

/-- R101 (2): the initialized guard is tested before the busy guard, so the exemption from the latter does not matter. -/
theorem writerPort_uninitialized {whileBusy : Bool} {s : State} (k : Host.Outcome State Fault Refusal)
    (hi : s.writer.initialized = false) : writerPort whileBusy s k = .refused .writerNotInitialized :=
  if_pos hi

theorem handlerPort_uninitialized {s : State} (k : Host.Outcome State Fault Refusal)
    (hi : s.handler.initialized = false) : handlerPort s k = .refused .handlerNotInitialized :=
  if_pos hi

/-- Settles O9: every command but `INIT` stands behind its port's guard (`writerPort_uninitialized`,
`handlerPort_uninitialized`). -/
theorem uninitializedUnitsRefuse : Obligations.UninitializedUnitsRefuse := by
  intro s b
  simp only [List.forall_mem_cons]
  refine ⟨fun hi => ?writer, fun hi => ?handler⟩
  case writer =>
    have refused (whileBusy : Bool) (k : Host.Outcome State Fault Refusal) :
        writerPort whileBusy s k = .refused .writerNotInitialized := writerPort_uninitialized k hi
    exact ⟨refused _ _, refused _ _, refused _ _, refused _ _, refused _ _, refused _ _, refused _ _, refused _ _,
      refused _ _, List.forall_mem_nil _⟩
  case handler =>
    have refused (k : Host.Outcome State Fault Refusal) :
        handlerPort s k = .refused .handlerNotInitialized := handlerPort_uninitialized k hi
    exact ⟨refused _, refused _, refused _, refused _, refused _, List.forall_mem_nil _⟩

/-! ## `W.INIT` and `H.INIT` -/

/-- Settles O10: the two branches of `W.INIT`'s own test of `W.busy`. -/
theorem wInitResetsTheWriter : Obligations.WInitResetsTheWriter := by
  intro s
  refine ⟨fun hb => ?initialized, fun hb => ?spinning⟩
  case initialized => exact if_neg (by simp [hb])
  case spinning => exact if_pos hb

/-- Settles O11: `H.INIT` has one case in every state; the reversal of an open write is `Buffer.reverseRW`. -/
theorem hInitResetsTheHandler : Obligations.HInitResetsTheHandler := fun _ => rfl

end Sys2Proof.Machine
